-- ==== Sys2Proof/Word.lean ====
section
/-!
DEFINITION. The widths of the machine's quantities (spec/00_scope.md R5, R6, R14; spec/30_encoding.md R101).
-/

namespace Sys2Proof

/-- A 32-bit quantity: a general register, an address, an instruction word (R14, R20). -/
abbrev Word := BitVec 32

/-- Eight bits, the addressable unit of memory (R14, R60). -/
abbrev Byte := BitVec 8

/-- A 64-bit quantity: a double, or the pair `hi || lo` (R14, R26). -/
abbrev DWord := BitVec 64

/-- The number of a general register: the fields `rs`, `rt`, `rd` (R101). -/
abbrev Reg := BitVec 5

/-- The number of a floating-point register: the fields `fs`, `ft`, `fd` (R101). -/
abbrev FReg := BitVec 5

/-- The number of a floating-point condition flag: the field `cc` (R101, R117). -/
abbrev CondFlag := BitVec 3

/-- A shift distance: the field `shamt` (R101). -/
abbrev Shamt := BitVec 5

/-- A 16-bit immediate or offset: the fields `imm`, `Offset` (R101). -/
abbrev Imm16 := BitVec 16

/-- The address field of `j` and `jal` (R101, R104). -/
abbrev Target26 := BitVec 26

/-- The software code of `break` (R101, R118). -/
abbrev Code20 := BitVec 20

end Sys2Proof
end

