-- ==== Sys2Proof/Config.lean ====
section
/-!
DEFINITION. The implementation parameters of spec/00_scope.md R4 as plain data, and the free values: constants
with no body, of which nothing can be proved.
-/

namespace Sys2Proof.Config

/-- What an access does at an address; `MEM_MAP` answers for each kind (R4, R66, R67, R64). -/
inductive Access where
  | read
  | write
  | execute
deriving DecidableEq, Repr

/-- A range of addresses that exist, and what may be done there (R69; log 27). -/
structure Region where
  base : Nat
  size : Nat
  readable : Bool
  writable : Bool
  executable : Bool
deriving DecidableEq, Repr

/-- The parameter `MEM_MAP` (R4, R69; log 27): a list of regions, or an arbitrary predicate on the kind, the address and
the size of an access, the constant `memMapPredicate`. -/
inductive MemMap where
  | regions (rs : List Region)
  | predicate
deriving DecidableEq, Repr

/-- The parameter `SIGNED_DIV` (R4, R194; log 13): the convention of `div` when an operand is negative.
`truncating` is the spec's default, `flooring` the other convention it names, `function` an arbitrary function of the
two operands that meets the two properties R194 assumes, `anyConvention` any pair that meets them, chosen anew by a free
value at each division. -/
inductive SignedDiv where
  | truncating
  | flooring
  | function
  | anyConvention
deriving DecidableEq, Repr

/-- The parameter `FP_NUMERICS` (R4, R402; log 14): the default, IEEE 754 with round to nearest even, or an arbitrary
record of functions, the constant `otherNumerics`. -/
inductive FpNumerics where
  | ieee
  | other
deriving DecidableEq, Repr

/-- The two-operand arithmetic of R402. -/
inductive FpArith where
  | add
  | sub
  | mul
  | div
deriving DecidableEq, Repr

/-- The conversions to a word (R404). -/
inductive WordConversion where
  | ceil
  | floor
  | trunc
  | round
  | cvt
deriving DecidableEq, Repr

/-- A record of total functions on the bits of the operands (R4): arithmetic, square roots and conversions, with the NaNs
that these deliver. -/
structure NumericsRecord where
  arithSingle : FpArith → Word → Word → Word
  arithDouble : FpArith → DWord → DWord → DWord
  sqrtSingle : Word → Word
  sqrtDouble : DWord → DWord
  singleToDouble : Word → DWord
  doubleToSingle : DWord → Word
  wordToSingle : Word → Word
  wordToDouble : Word → DWord
  singleToWord : WordConversion → Word → Word
  doubleToWord : WordConversion → DWord → Word
deriving Inhabited

/-- The parameter `SYSCALL_MODE` (R4, R481). -/
inductive SyscallMode where
  | trap
  | host
deriving DecidableEq, Repr

/-- The parameters of R4 that a run fixes, one field each. `INTERRUPT_SOURCE` and `OTHER_AGENTS` are the inputs of the
state (logs 25, 26); `DIV_BY_ZERO` and `HOST_SYSCALL` are the bodiless constants below. -/
structure Params where
  /-- `BIG_ENDIAN` -/
  bigEndian : Bool
  /-- `DELAYED_BRANCHES` -/
  delayedBranches : Bool
  /-- `SC_ALWAYS_SUCCEEDS` -/
  scAlwaysSucceeds : Bool
  /-- `LL_BLOCK_BYTES` -/
  llBlockBytes : Nat
  /-- `SIGNED_DIV` -/
  signedDiv : SignedDiv
  /-- `EXC_VECTOR` -/
  excVector : Word
  /-- `RESET_PC` -/
  resetPc : Word
  /-- `MEM_MAP` -/
  memMap : MemMap
  /-- `SYSCALL_MODE` -/
  syscallMode : SyscallMode
  /-- `STRICT_ZERO_FIELDS` -/
  strictZeroFields : Bool
  /-- `FP_NUMERICS` -/
  fpNumerics : FpNumerics
  /-- `ADMIT_LIKELY` -/
  admitLikely : Bool
deriving DecidableEq, Repr

/-- The types of R4's table: the two code addresses are multiples of 4, the block size is a power of two and
at least 4. -/
def Params.wf (p : Params) : Bool :=
  p.excVector.toNat % 4 == 0 && p.resetPc.toNat % 4 == 0 && 4 ≤ p.llBlockBytes
    && p.llBlockBytes == 2 ^ Nat.log2 p.llBlockBytes

/-- A free value: 64 arbitrary bits for each draw (spec/93_implementation_defined.md, treatment `any value`;
log 11). -/
opaque freeBits : Nat → DWord

/-- `DIV_BY_ZERO`: `(lo, hi)` after a division whose quotient the spec leaves without a value (R4, R194, U7, U8;
log 12). The first argument is the dividend, the second the number of the draw. -/
opaque divByZero : Word → Nat → Word × Word

/-- The predicate of `MemMap.predicate` (R4; log 27). -/
opaque memMapPredicate : Access → Word → Nat → Bool

/-- The record of `FpNumerics.other` (R4; log 14). -/
opaque otherNumerics : NumericsRecord

/-- Which of the two remainders that R194 allows a division delivers under `SignedDiv.function` (U1; log 13). -/
opaque signedDivChoice : Int → Int → Bool

/-- Which of the two remainders that R194 allows a division delivers under `SignedDiv.anyConvention` (U1; log 13).
The last argument is the number of the draw. -/
opaque signedDivPick : Int → Int → Nat → Bool

/-- What a host service does (R481): writes to general registers, floating-point registers and memory, and
whether it ends the run. -/
structure HostEffect where
  gprWrites : List (Reg × Word)
  fprWrites : List (FReg × Word)
  memWrites : List (Word × Byte)
  endsRun : Bool
deriving DecidableEq, Repr, Inhabited

/-- `HOST_SYSCALL` (R4, R481; log 18): the effect of the service the first argument selects, which may depend on
the general registers, the floating-point registers and memory. The last argument is the number of the draw. -/
opaque hostSyscall : Word → Vector Word 32 → Vector Word 32 → List Host.Cell → Nat → HostEffect

end Sys2Proof.Config
end

