-- ==== Sys2Proof/Machine/Bytes.lean ====
section
/-!
DEFINITION. Byte order: how the bytes of an access, listed from the lowest address, make a number and back
(spec/20_memory.md R62).
-/

namespace Sys2Proof.Machine

/-- The number whose bytes, least significant first, are the list. -/
def littleEndianValue : List Byte → Nat
  | [] => 0
  | b :: bs => b.toNat + 256 * littleEndianValue bs

/-- The `n` low bytes of `v`, least significant first. -/
def littleEndianBytes : Nat → Nat → List Byte
  | 0, _ => []
  | n + 1, v => BitVec.ofNat 8 v :: littleEndianBytes n (v / 256)

/-- The value of an access whose bytes, lowest address first, are the list (R62). -/
def bytesToNat (bigEndian : Bool) (bs : List Byte) : Nat :=
  littleEndianValue (if bigEndian then bs.reverse else bs)

/-- The `n` bytes that an access of value `v` puts in memory, lowest address first (R62). -/
def natToBytes (bigEndian : Bool) (n v : Nat) : List Byte :=
  if bigEndian then (littleEndianBytes n v).reverse else littleEndianBytes n v

end Sys2Proof.Machine
end

