-- ==== Sys2Proof/Machine/ResetValues.lean ====
section
/-!
DEFINITION. The values of the parameters of spec/00_scope.md R4 that the machine has after reset, and the values
of the registers for which spec/10_state.md R46 says "unspecified".
-/

namespace Sys2Proof.Machine

/-- `BIG_ENDIAN` after reset. R62 leaves it OPEN. DESIGN CHOICE, unsafe (log 2). -/
def resetBigEndian : Bool := false

/-- `RESET_PC`. R4 and R551 leave it OPEN. PRESUMED, the family's value that R551 mentions, unsafe (log 3). -/
def resetPcValue : Word := 0xBFC00000#32

/-- `LL_BLOCK_BYTES` after reset. R73 leaves it OPEN. DESIGN CHOICE, unsafe (log 4). -/
def resetLlBlockBytes : Nat := 32

/-- What R46's "unspecified" registers hold after reset. DESIGN CHOICE, unsafe (logs 5 to 8). -/
def unspecifiedAtReset : Word := 0#32

/-- The default `MEM_MAP` of R4: every address is ordinary memory. -/
def wholeAddressSpace : Config.MemMap :=
  .regions [{ base := 0, size := 2 ^ 32, readable := true, writable := true, executable := true }]

/-- The parameters after reset: the defaults of R4's table, and for those it leaves OPEN the values above. -/
def defaultParams : Config.Params where
  bigEndian := resetBigEndian
  delayedBranches := true
  scAlwaysSucceeds := false
  llBlockBytes := resetLlBlockBytes
  signedDiv := .truncating
  excVector := 0x80000180#32
  resetPc := resetPcValue
  memMap := wholeAddressSpace
  syscallMode := .trap
  strictZeroFields := true
  fpNumerics := .ieee
  admitLikely := true

end Sys2Proof.Machine
end

