-- ==== Sys2Proof/Syntax.lean ====
section
/-!
DEFINITION. The 149 machine instructions of spec/opcode_table.json, one constructor per row, operands in the order
of the assembler syntax (spec/30_encoding.md R134); a load or store `rt, Offset(rs)` has `rt off rs`.
Names: a dot of the mnemonic becomes a capital letter (`c.eq.d` is `cEqD`), and `break` is `brk`.
-/

namespace Sys2Proof

/-- An instruction of the machine (R2, R101 to R105). -/
inductive Instr where
  -- Arithmetic and logical instructions (spec/40_arithmetic_logical.md)
  | add (rd rs rt : Reg)
  | addu (rd rs rt : Reg)
  | addi (rt rs : Reg) (imm : Imm16)
  | addiu (rt rs : Reg) (imm : Imm16)
  | and (rd rs rt : Reg)
  | andi (rt rs : Reg) (imm : Imm16)
  | clo (rd rs : Reg)
  | clz (rd rs : Reg)
  | div (rs rt : Reg)
  | divu (rs rt : Reg)
  | mult (rs rt : Reg)
  | multu (rs rt : Reg)
  | mul (rd rs rt : Reg)
  | madd (rs rt : Reg)
  | maddu (rs rt : Reg)
  | msub (rs rt : Reg)
  | msubu (rs rt : Reg)
  | nor (rd rs rt : Reg)
  | or (rd rs rt : Reg)
  | ori (rt rs : Reg) (imm : Imm16)
  | sll (rd rt : Reg) (shamt : Shamt)
  | sllv (rd rt rs : Reg)
  | sra (rd rt : Reg) (shamt : Shamt)
  | srav (rd rt rs : Reg)
  | srl (rd rt : Reg) (shamt : Shamt)
  | srlv (rd rt rs : Reg)
  | sub (rd rs rt : Reg)
  | subu (rd rs rt : Reg)
  | xor (rd rs rt : Reg)
  | xori (rt rs : Reg) (imm : Imm16)
  -- Constant-manipulating and comparison instructions (spec/41_constant_comparison.md)
  | lui (rt : Reg) (imm : Imm16)
  | slt (rd rs rt : Reg)
  | sltu (rd rs rt : Reg)
  | slti (rt rs : Reg) (imm : Imm16)
  | sltiu (rt rs : Reg) (imm : Imm16)
  -- Branch and jump instructions (spec/42_branch_jump.md)
  | bc1f (cc : CondFlag) (off : Imm16)
  | bc1t (cc : CondFlag) (off : Imm16)
  | beq (rs rt : Reg) (off : Imm16)
  | bgez (rs : Reg) (off : Imm16)
  | bgezal (rs : Reg) (off : Imm16)
  | bgtz (rs : Reg) (off : Imm16)
  | blez (rs : Reg) (off : Imm16)
  | bltzal (rs : Reg) (off : Imm16)
  | bltz (rs : Reg) (off : Imm16)
  | bne (rs rt : Reg) (off : Imm16)
  | bc1fl (cc : CondFlag) (off : Imm16)
  | bc1tl (cc : CondFlag) (off : Imm16)
  | beql (rs rt : Reg) (off : Imm16)
  | bgezl (rs : Reg) (off : Imm16)
  | bgezall (rs : Reg) (off : Imm16)
  | bgtzl (rs : Reg) (off : Imm16)
  | blezl (rs : Reg) (off : Imm16)
  | bltzall (rs : Reg) (off : Imm16)
  | bltzl (rs : Reg) (off : Imm16)
  | bnel (rs rt : Reg) (off : Imm16)
  | j (target : Target26)
  | jal (target : Target26)
  | jalr (rs rd : Reg)
  | jr (rs : Reg)
  -- Trap instructions (spec/43_trap.md)
  | teq (rs rt : Reg)
  | teqi (rs : Reg) (imm : Imm16)
  | tne (rs rt : Reg)
  | tnei (rs : Reg) (imm : Imm16)
  | tge (rs rt : Reg)
  | tgeu (rs rt : Reg)
  | tgei (rs : Reg) (imm : Imm16)
  | tgeiu (rs : Reg) (imm : Imm16)
  | tlt (rs rt : Reg)
  | tltu (rs rt : Reg)
  | tlti (rs : Reg) (imm : Imm16)
  | tltiu (rs : Reg) (imm : Imm16)
  -- Load and store instructions (spec/44_load_store.md)
  | lb (rt : Reg) (off : Imm16) (rs : Reg)
  | lbu (rt : Reg) (off : Imm16) (rs : Reg)
  | lh (rt : Reg) (off : Imm16) (rs : Reg)
  | lhu (rt : Reg) (off : Imm16) (rs : Reg)
  | lw (rt : Reg) (off : Imm16) (rs : Reg)
  | lwc1 (ft : FReg) (off : Imm16) (rs : Reg)
  | ldc1 (ft : FReg) (off : Imm16) (rs : Reg)
  | lwl (rt : Reg) (off : Imm16) (rs : Reg)
  | lwr (rt : Reg) (off : Imm16) (rs : Reg)
  | ll (rt : Reg) (off : Imm16) (rs : Reg)
  | sb (rt : Reg) (off : Imm16) (rs : Reg)
  | sh (rt : Reg) (off : Imm16) (rs : Reg)
  | sw (rt : Reg) (off : Imm16) (rs : Reg)
  | swc1 (ft : FReg) (off : Imm16) (rs : Reg)
  | sdc1 (ft : FReg) (off : Imm16) (rs : Reg)
  | swl (rt : Reg) (off : Imm16) (rs : Reg)
  | swr (rt : Reg) (off : Imm16) (rs : Reg)
  | sc (rt : Reg) (off : Imm16) (rs : Reg)
  -- Data movement instructions (spec/45_data_movement.md)
  | mfhi (rd : Reg)
  | mflo (rd : Reg)
  | mthi (rs : Reg)
  | mtlo (rs : Reg)
  | mfc0 (rt rd : Reg)
  | mfc1 (rt : Reg) (fs : FReg)
  | mtc0 (rt rd : Reg)
  | mtc1 (rt : Reg) (fs : FReg)
  | movn (rd rs rt : Reg)
  | movz (rd rs rt : Reg)
  | movf (rd rs : Reg) (cc : CondFlag)
  | movt (rd rs : Reg) (cc : CondFlag)
  -- Floating-point instructions (spec/46_floating_point.md)
  | absD (fd fs : FReg)
  | absS (fd fs : FReg)
  | addD (fd fs ft : FReg)
  | addS (fd fs ft : FReg)
  | ceilWD (fd fs : FReg)
  | ceilWS (fd fs : FReg)
  | cEqD (cc : CondFlag) (fs ft : FReg)
  | cEqS (cc : CondFlag) (fs ft : FReg)
  | cLeD (cc : CondFlag) (fs ft : FReg)
  | cLeS (cc : CondFlag) (fs ft : FReg)
  | cLtD (cc : CondFlag) (fs ft : FReg)
  | cLtS (cc : CondFlag) (fs ft : FReg)
  | cvtDS (fd fs : FReg)
  | cvtDW (fd fs : FReg)
  | cvtSD (fd fs : FReg)
  | cvtSW (fd fs : FReg)
  | cvtWD (fd fs : FReg)
  | cvtWS (fd fs : FReg)
  | divD (fd fs ft : FReg)
  | divS (fd fs ft : FReg)
  | floorWD (fd fs : FReg)
  | floorWS (fd fs : FReg)
  | movD (fd fs : FReg)
  | movS (fd fs : FReg)
  | movfD (fd fs : FReg) (cc : CondFlag)
  | movfS (fd fs : FReg) (cc : CondFlag)
  | movtD (fd fs : FReg) (cc : CondFlag)
  | movtS (fd fs : FReg) (cc : CondFlag)
  | movnD (fd fs : FReg) (rt : Reg)
  | movnS (fd fs : FReg) (rt : Reg)
  | movzD (fd fs : FReg) (rt : Reg)
  | movzS (fd fs : FReg) (rt : Reg)
  | mulD (fd fs ft : FReg)
  | mulS (fd fs ft : FReg)
  | negD (fd fs : FReg)
  | negS (fd fs : FReg)
  | roundWD (fd fs : FReg)
  | roundWS (fd fs : FReg)
  | sqrtD (fd fs : FReg)
  | sqrtS (fd fs : FReg)
  | subD (fd fs ft : FReg)
  | subS (fd fs ft : FReg)
  | truncWD (fd fs : FReg)
  | truncWS (fd fs : FReg)
  -- Exception instructions (spec/47_exception_instructions.md)
  | eret
  | syscall
  | brk (code : Code20)
  | nop
deriving DecidableEq, Repr

end Sys2Proof
end

