-- ==== Sys2Proof/WellFormed.lean ====
section
/-!
DEFINITION. Which instruction terms stand for a word of the opcode table (spec/30_encoding.md R128, R132;
spec/42_branch_jump.md R253). Every operand field takes every value of its width: R101.
-/

namespace Sys2Proof

/-- The term is the one the decoder gives for its word. Two checks: `sll` with `rd`, `rt` and `shamt` all 0 is the
word of `nop` (R128, R483; log 33), and a branch-likely exists only when `ADMIT_LIKELY` is true (R253, R4). -/
def Instr.wellFormed (p : Config.Params) : Instr → Bool
  | .add _ _ _ => true
  | .addu _ _ _ => true
  | .addi _ _ _ => true
  | .addiu _ _ _ => true
  | .and _ _ _ => true
  | .andi _ _ _ => true
  | .clo _ _ => true
  | .clz _ _ => true
  | .div _ _ => true
  | .divu _ _ => true
  | .mult _ _ => true
  | .multu _ _ => true
  | .mul _ _ _ => true
  | .madd _ _ => true
  | .maddu _ _ => true
  | .msub _ _ => true
  | .msubu _ _ => true
  | .nor _ _ _ => true
  | .or _ _ _ => true
  | .ori _ _ _ => true
  | .sll rd rt shamt => !(rd == 0 && rt == 0 && shamt == 0)
  | .sllv _ _ _ => true
  | .sra _ _ _ => true
  | .srav _ _ _ => true
  | .srl _ _ _ => true
  | .srlv _ _ _ => true
  | .sub _ _ _ => true
  | .subu _ _ _ => true
  | .xor _ _ _ => true
  | .xori _ _ _ => true
  | .lui _ _ => true
  | .slt _ _ _ => true
  | .sltu _ _ _ => true
  | .slti _ _ _ => true
  | .sltiu _ _ _ => true
  | .bc1f _ _ => true
  | .bc1t _ _ => true
  | .beq _ _ _ => true
  | .bgez _ _ => true
  | .bgezal _ _ => true
  | .bgtz _ _ => true
  | .blez _ _ => true
  | .bltzal _ _ => true
  | .bltz _ _ => true
  | .bne _ _ _ => true
  | .bc1fl _ _ => p.admitLikely
  | .bc1tl _ _ => p.admitLikely
  | .beql _ _ _ => p.admitLikely
  | .bgezl _ _ => p.admitLikely
  | .bgezall _ _ => p.admitLikely
  | .bgtzl _ _ => p.admitLikely
  | .blezl _ _ => p.admitLikely
  | .bltzall _ _ => p.admitLikely
  | .bltzl _ _ => p.admitLikely
  | .bnel _ _ _ => p.admitLikely
  | .j _ => true
  | .jal _ => true
  | .jalr _ _ => true
  | .jr _ => true
  | .teq _ _ => true
  | .teqi _ _ => true
  | .tne _ _ => true
  | .tnei _ _ => true
  | .tge _ _ => true
  | .tgeu _ _ => true
  | .tgei _ _ => true
  | .tgeiu _ _ => true
  | .tlt _ _ => true
  | .tltu _ _ => true
  | .tlti _ _ => true
  | .tltiu _ _ => true
  | .lb _ _ _ => true
  | .lbu _ _ _ => true
  | .lh _ _ _ => true
  | .lhu _ _ _ => true
  | .lw _ _ _ => true
  | .lwc1 _ _ _ => true
  | .ldc1 _ _ _ => true
  | .lwl _ _ _ => true
  | .lwr _ _ _ => true
  | .ll _ _ _ => true
  | .sb _ _ _ => true
  | .sh _ _ _ => true
  | .sw _ _ _ => true
  | .swc1 _ _ _ => true
  | .sdc1 _ _ _ => true
  | .swl _ _ _ => true
  | .swr _ _ _ => true
  | .sc _ _ _ => true
  | .mfhi _ => true
  | .mflo _ => true
  | .mthi _ => true
  | .mtlo _ => true
  | .mfc0 _ _ => true
  | .mfc1 _ _ => true
  | .mtc0 _ _ => true
  | .mtc1 _ _ => true
  | .movn _ _ _ => true
  | .movz _ _ _ => true
  | .movf _ _ _ => true
  | .movt _ _ _ => true
  | .absD _ _ => true
  | .absS _ _ => true
  | .addD _ _ _ => true
  | .addS _ _ _ => true
  | .ceilWD _ _ => true
  | .ceilWS _ _ => true
  | .cEqD _ _ _ => true
  | .cEqS _ _ _ => true
  | .cLeD _ _ _ => true
  | .cLeS _ _ _ => true
  | .cLtD _ _ _ => true
  | .cLtS _ _ _ => true
  | .cvtDS _ _ => true
  | .cvtDW _ _ => true
  | .cvtSD _ _ => true
  | .cvtSW _ _ => true
  | .cvtWD _ _ => true
  | .cvtWS _ _ => true
  | .divD _ _ _ => true
  | .divS _ _ _ => true
  | .floorWD _ _ => true
  | .floorWS _ _ => true
  | .movD _ _ => true
  | .movS _ _ => true
  | .movfD _ _ _ => true
  | .movfS _ _ _ => true
  | .movtD _ _ _ => true
  | .movtS _ _ _ => true
  | .movnD _ _ _ => true
  | .movnS _ _ _ => true
  | .movzD _ _ _ => true
  | .movzS _ _ _ => true
  | .mulD _ _ _ => true
  | .mulS _ _ _ => true
  | .negD _ _ => true
  | .negS _ _ => true
  | .roundWD _ _ => true
  | .roundWS _ _ => true
  | .sqrtD _ _ => true
  | .sqrtS _ _ => true
  | .subD _ _ _ => true
  | .subS _ _ _ => true
  | .truncWD _ _ => true
  | .truncWS _ _ => true
  | .eret => true
  | .syscall => true
  | .brk _ => true
  | .nop => true

end Sys2Proof
end

