-- ==== Sys2Proof/Decode.lean ====
section
/-!
DEFINITION. The decoder, as the cascade of spec/30_encoding.md R120 to R128; the encoder, from the same rows; and the
opcode table itself (spec/opcode_table.json) as the pattern each constructor's words match.
-/

namespace Sys2Proof

/-! ## Fields (R101) -/

/-- Bits 31:26. -/
def opField (w : Word) : BitVec 6 := w.extractLsb' 26 6
/-- Bits 25:21: `rs`, `fmt` or a sub-opcode. -/
def rsField (w : Word) : BitVec 5 := w.extractLsb' 21 5
/-- Bits 20:16: `rt`, `ft` or a sub-opcode. -/
def rtField (w : Word) : BitVec 5 := w.extractLsb' 16 5
/-- Bits 15:11: `rd` or `fs`. -/
def rdField (w : Word) : BitVec 5 := w.extractLsb' 11 5
/-- Bits 10:6: `shamt` or `fd`. -/
def shamtField (w : Word) : BitVec 5 := w.extractLsb' 6 5
/-- Bits 5:0. -/
def functField (w : Word) : BitVec 6 := w.extractLsb' 0 6
/-- Bits 15:0: `imm` or `Offset`. -/
def immField (w : Word) : Imm16 := w.extractLsb' 0 16
/-- Bits 25:0. -/
def targetField (w : Word) : Target26 := w.extractLsb' 0 26
/-- Bits 25:6. -/
def codeField (w : Word) : Code20 := w.extractLsb' 6 20
/-- Bits 20:18: the flag number in branches and conditional moves (R117). -/
def ccField (w : Word) : CondFlag := w.extractLsb' 18 3
/-- Bits 17:16: `tf`, the sense. -/
def senseField (w : Word) : BitVec 2 := w.extractLsb' 16 2
/-- Bits 10:8: the flag number in compares (R117). -/
def compareCcField (w : Word) : CondFlag := w.extractLsb' 8 3
/-- Bits 7:6, zero in a compare. -/
def compareZeroField (w : Word) : BitVec 2 := w.extractLsb' 6 2

/-! ## The decoder -/

/-- Why a word is reserved (R130): which part of the cascade found no row. Executing such a word raises
`ReservedInstruction`. -/
inductive DecodeError where
  /-- No row has this `op` (R120, R131). -/
  | reservedOp (op : BitVec 6)
  /-- No row under this `op`, and `fmt` if any, has this `funct` (R121, R123, R124, R126, R127). -/
  | reservedFunct (funct : BitVec 6)
  /-- No row under op 1 has this `rt` (R122). -/
  | reservedRt (rt : BitVec 5)
  /-- No row under op 0x10 or 0x11 has this `rs` (R124, R125). -/
  | reservedRs (rs : BitVec 5)
  /-- No row has this value in the two-bit sense field (R121, R126). -/
  | reservedSense (tf : BitVec 2)
  /-- A field the row shows as a number holds another value (R129). -/
  | fixedField
  /-- A branch-likely while `ADMIT_LIKELY` is false (R253). -/
  | likelyNotAdmitted
  /-- Fewer than four bytes: every instruction is one 32-bit word (R100). -/
  | truncated
deriving DecidableEq, Repr

/-- A row whose fixed fields must hold (R129). -/
def whenFixed (ok : Bool) (i : Instr) : Except DecodeError Instr :=
  if ok then .ok i else .error .fixedField

/-- A row that exists only under `ADMIT_LIKELY` (R253). -/
def whenLikely (p : Config.Params) (i : Instr) : Except DecodeError Instr :=
  if p.admitLikely then .ok i else .error .likelyNotAdmitted

/-- op 0 (R121). -/
def decodeSpecial (p : Config.Params) (w : Word) : Except DecodeError Instr :=
  let rs := rsField w
  let rt := rtField w
  let rd := rdField w
  let sh := shamtField w
  let relaxed := !p.strictZeroFields
  match (functField w).toNat with
  | 0x00 => if w = 0#32 then .ok .nop else .ok (.sll rd rt sh)
  | 0x01 =>
    match (senseField w).toNat with
    | 0 => whenFixed (sh == 0) (.movf rd rs (ccField w))
    | 1 => whenFixed (sh == 0) (.movt rd rs (ccField w))
    | _ => .error (.reservedSense (senseField w))
  | 0x02 => .ok (.srl rd rt sh)
  | 0x03 => .ok (.sra rd rt sh)
  | 0x04 => whenFixed (sh == 0) (.sllv rd rt rs)
  | 0x06 => whenFixed (sh == 0) (.srlv rd rt rs)
  | 0x07 => whenFixed (sh == 0) (.srav rd rt rs)
  | 0x08 => whenFixed (rt == 0 && rd == 0 && (sh == 0 || relaxed)) (.jr rs)
  | 0x09 => whenFixed (rt == 0 && (sh == 0 || relaxed)) (.jalr rs rd)
  | 0x0a => whenFixed (sh == 0) (.movz rd rs rt)
  | 0x0b => whenFixed (sh == 0) (.movn rd rs rt)
  | 0x0c => whenFixed (codeField w == 0 || relaxed) .syscall
  | 0x0d => .ok (.brk (codeField w))
  | 0x10 => whenFixed (rs == 0 && rt == 0 && sh == 0) (.mfhi rd)
  | 0x11 => whenFixed (rt == 0 && rd == 0 && sh == 0) (.mthi rs)
  | 0x12 => whenFixed (rs == 0 && rt == 0 && sh == 0) (.mflo rd)
  | 0x13 => whenFixed (rt == 0 && rd == 0 && sh == 0) (.mtlo rs)
  | 0x18 => whenFixed (rd == 0 && sh == 0) (.mult rs rt)
  | 0x19 => whenFixed (rd == 0 && sh == 0) (.multu rs rt)
  | 0x1a => whenFixed (rd == 0 && sh == 0) (.div rs rt)
  | 0x1b => whenFixed (rd == 0 && sh == 0) (.divu rs rt)
  | 0x20 => whenFixed (sh == 0) (.add rd rs rt)
  | 0x21 => whenFixed (sh == 0) (.addu rd rs rt)
  | 0x22 => whenFixed (sh == 0) (.sub rd rs rt)
  | 0x23 => whenFixed (sh == 0) (.subu rd rs rt)
  | 0x24 => whenFixed (sh == 0) (.and rd rs rt)
  | 0x25 => whenFixed (sh == 0) (.or rd rs rt)
  | 0x26 => whenFixed (sh == 0) (.xor rd rs rt)
  | 0x27 => whenFixed (sh == 0) (.nor rd rs rt)
  | 0x2a => whenFixed (sh == 0) (.slt rd rs rt)
  | 0x2b => whenFixed (sh == 0) (.sltu rd rs rt)
  | 0x30 => whenFixed (rd == 0 && sh == 0 || relaxed) (.tge rs rt)
  | 0x31 => whenFixed (rd == 0 && sh == 0 || relaxed) (.tgeu rs rt)
  | 0x32 => whenFixed (rd == 0 && sh == 0 || relaxed) (.tlt rs rt)
  | 0x33 => whenFixed (rd == 0 && sh == 0 || relaxed) (.tltu rs rt)
  | 0x34 => whenFixed (rd == 0 && sh == 0 || relaxed) (.teq rs rt)
  | 0x36 => whenFixed (rd == 0 && sh == 0 || relaxed) (.tne rs rt)
  | _ => .error (.reservedFunct (functField w))

/-- op 1 (R122). -/
def decodeRegimm (p : Config.Params) (w : Word) : Except DecodeError Instr :=
  let rs := rsField w
  let imm := immField w
  match (rtField w).toNat with
  | 0x00 => .ok (.bltz rs imm)
  | 0x01 => .ok (.bgez rs imm)
  | 0x02 => whenLikely p (.bltzl rs imm)
  | 0x03 => whenLikely p (.bgezl rs imm)
  | 0x08 => .ok (.tgei rs imm)
  | 0x09 => .ok (.tgeiu rs imm)
  | 0x0a => .ok (.tlti rs imm)
  | 0x0b => .ok (.tltiu rs imm)
  | 0x0c => .ok (.teqi rs imm)
  | 0x0e => .ok (.tnei rs imm)
  | 0x10 => .ok (.bltzal rs imm)
  | 0x11 => .ok (.bgezal rs imm)
  | 0x12 => whenLikely p (.bltzall rs imm)
  | 0x13 => whenLikely p (.bgezall rs imm)
  | _ => .error (.reservedRt (rtField w))

/-- op 0x1c (R123). -/
def decodeSpecial2 (p : Config.Params) (w : Word) : Except DecodeError Instr :=
  let rs := rsField w
  let rt := rtField w
  let rd := rdField w
  let sh := shamtField w
  let relaxed := !p.strictZeroFields
  match (functField w).toNat with
  | 0x00 => whenFixed (rd == 0 && sh == 0) (.madd rs rt)
  | 0x01 => whenFixed (rd == 0 && sh == 0) (.maddu rs rt)
  | 0x02 => whenFixed (sh == 0) (.mul rd rs rt)
  | 0x04 => whenFixed (rd == 0 && sh == 0) (.msub rs rt)
  | 0x05 => whenFixed (rd == 0 && sh == 0) (.msubu rs rt)
  | 0x20 => whenFixed (sh == 0 && (rt == 0 || relaxed)) (.clz rd rs)
  | 0x21 => whenFixed (sh == 0 && (rt == 0 || relaxed)) (.clo rd rs)
  | _ => .error (.reservedFunct (functField w))

/-- op 0x10, coprocessor 0 (R124). -/
def decodeCop0 (w : Word) : Except DecodeError Instr :=
  let rt := rtField w
  let rd := rdField w
  match (rsField w).toNat with
  | 0x00 => whenFixed (shamtField w == 0 && functField w == 0) (.mfc0 rt rd)
  | 0x04 => whenFixed (shamtField w == 0 && functField w == 0) (.mtc0 rt rd)
  | 0x10 =>
    if functField w = 0x18#6 then whenFixed (rt == 0 && rd == 0 && shamtField w == 0) .eret
    else .error (.reservedFunct (functField w))
  | _ => .error (.reservedRs (rsField w))

/-- op 0x11, fmt 0x10: single precision (R126). -/
def decodeSingle (w : Word) : Except DecodeError Instr :=
  let ft := rtField w
  let fs := rdField w
  let fd := shamtField w
  match (functField w).toNat with
  | 0x00 => .ok (.addS fd fs ft)
  | 0x01 => .ok (.subS fd fs ft)
  | 0x02 => .ok (.mulS fd fs ft)
  | 0x03 => .ok (.divS fd fs ft)
  | 0x04 => whenFixed (ft == 0) (.sqrtS fd fs)
  | 0x05 => whenFixed (ft == 0) (.absS fd fs)
  | 0x06 => whenFixed (ft == 0) (.movS fd fs)
  | 0x07 => whenFixed (ft == 0) (.negS fd fs)
  | 0x0c => whenFixed (ft == 0) (.roundWS fd fs)
  | 0x0d => whenFixed (ft == 0) (.truncWS fd fs)
  | 0x0e => whenFixed (ft == 0) (.ceilWS fd fs)
  | 0x0f => whenFixed (ft == 0) (.floorWS fd fs)
  | 0x11 =>
    match (senseField w).toNat with
    | 0 => .ok (.movfS fd fs (ccField w))
    | 1 => .ok (.movtS fd fs (ccField w))
    | _ => .error (.reservedSense (senseField w))
  | 0x12 => .ok (.movzS fd fs ft)
  | 0x13 => .ok (.movnS fd fs ft)
  | 0x21 => whenFixed (ft == 0) (.cvtDS fd fs)
  | 0x24 => whenFixed (ft == 0) (.cvtWS fd fs)
  | 0x32 => whenFixed (compareZeroField w == 0) (.cEqS (compareCcField w) fs ft)
  | 0x3c => whenFixed (compareZeroField w == 0) (.cLtS (compareCcField w) fs ft)
  | 0x3e => whenFixed (compareZeroField w == 0) (.cLeS (compareCcField w) fs ft)
  | _ => .error (.reservedFunct (functField w))

/-- op 0x11, fmt 0x11: double precision (R126). -/
def decodeDouble (w : Word) : Except DecodeError Instr :=
  let ft := rtField w
  let fs := rdField w
  let fd := shamtField w
  match (functField w).toNat with
  | 0x00 => .ok (.addD fd fs ft)
  | 0x01 => .ok (.subD fd fs ft)
  | 0x02 => .ok (.mulD fd fs ft)
  | 0x03 => .ok (.divD fd fs ft)
  | 0x04 => whenFixed (ft == 0) (.sqrtD fd fs)
  | 0x05 => whenFixed (ft == 0) (.absD fd fs)
  | 0x06 => whenFixed (ft == 0) (.movD fd fs)
  | 0x07 => whenFixed (ft == 0) (.negD fd fs)
  | 0x0c => whenFixed (ft == 0) (.roundWD fd fs)
  | 0x0d => whenFixed (ft == 0) (.truncWD fd fs)
  | 0x0e => whenFixed (ft == 0) (.ceilWD fd fs)
  | 0x0f => whenFixed (ft == 0) (.floorWD fd fs)
  | 0x11 =>
    match (senseField w).toNat with
    | 0 => .ok (.movfD fd fs (ccField w))
    | 1 => .ok (.movtD fd fs (ccField w))
    | _ => .error (.reservedSense (senseField w))
  | 0x12 => .ok (.movzD fd fs ft)
  | 0x13 => .ok (.movnD fd fs ft)
  | 0x20 => whenFixed (ft == 0) (.cvtSD fd fs)
  | 0x24 => whenFixed (ft == 0) (.cvtWD fd fs)
  | 0x32 => whenFixed (compareZeroField w == 0) (.cEqD (compareCcField w) fs ft)
  | 0x3c => whenFixed (compareZeroField w == 0) (.cLtD (compareCcField w) fs ft)
  | 0x3e => whenFixed (compareZeroField w == 0) (.cLeD (compareCcField w) fs ft)
  | _ => .error (.reservedFunct (functField w))

/-- op 0x11, coprocessor 1 (R125, R127). -/
def decodeCop1 (p : Config.Params) (w : Word) : Except DecodeError Instr :=
  match (rsField w).toNat with
  | 0x00 => whenFixed (shamtField w == 0 && functField w == 0) (.mfc1 (rtField w) (rdField w))
  | 0x04 => whenFixed (shamtField w == 0 && functField w == 0) (.mtc1 (rtField w) (rdField w))
  | 0x08 =>
    match (senseField w).toNat with
    | 0 => .ok (.bc1f (ccField w) (immField w))
    | 1 => .ok (.bc1t (ccField w) (immField w))
    | 2 => whenLikely p (.bc1fl (ccField w) (immField w))
    | _ => whenLikely p (.bc1tl (ccField w) (immField w))
  | 0x10 => decodeSingle w
  | 0x11 => decodeDouble w
  | 0x14 =>
    match (functField w).toNat with
    | 0x20 => whenFixed (rtField w == 0) (.cvtSW (shamtField w) (rdField w))
    | 0x21 => whenFixed (rtField w == 0) (.cvtDW (shamtField w) (rdField w))
    | _ => .error (.reservedFunct (functField w))
  | _ => .error (.reservedRs (rsField w))

/-- The instruction a word stands for, or why it is reserved (R120, R128). -/
def decode (p : Config.Params) (w : Word) : Except DecodeError Instr :=
  let rs := rsField w
  let rt := rtField w
  let imm := immField w
  match (opField w).toNat with
  | 0x00 => decodeSpecial p w
  | 0x01 => decodeRegimm p w
  | 0x02 => .ok (.j (targetField w))
  | 0x03 => .ok (.jal (targetField w))
  | 0x04 => .ok (.beq rs rt imm)
  | 0x05 => .ok (.bne rs rt imm)
  | 0x06 => whenFixed (rt == 0) (.blez rs imm)
  | 0x07 => whenFixed (rt == 0) (.bgtz rs imm)
  | 0x08 => .ok (.addi rt rs imm)
  | 0x09 => .ok (.addiu rt rs imm)
  | 0x0a => .ok (.slti rt rs imm)
  | 0x0b => .ok (.sltiu rt rs imm)
  | 0x0c => .ok (.andi rt rs imm)
  | 0x0d => .ok (.ori rt rs imm)
  | 0x0e => .ok (.xori rt rs imm)
  | 0x0f => whenFixed (rs == 0) (.lui rt imm)
  | 0x10 => decodeCop0 w
  | 0x11 => decodeCop1 p w
  | 0x14 => whenLikely p (.beql rs rt imm)
  | 0x15 => whenLikely p (.bnel rs rt imm)
  | 0x16 => if rt = 0#5 then whenLikely p (.blezl rs imm) else .error .fixedField
  | 0x17 => if rt = 0#5 then whenLikely p (.bgtzl rs imm) else .error .fixedField
  | 0x1c => decodeSpecial2 p w
  | 0x20 => .ok (.lb rt imm rs)
  | 0x21 => .ok (.lh rt imm rs)
  | 0x22 => .ok (.lwl rt imm rs)
  | 0x23 => .ok (.lw rt imm rs)
  | 0x24 => .ok (.lbu rt imm rs)
  | 0x25 => .ok (.lhu rt imm rs)
  | 0x26 => .ok (.lwr rt imm rs)
  | 0x28 => .ok (.sb rt imm rs)
  | 0x29 => .ok (.sh rt imm rs)
  | 0x2a => .ok (.swl rt imm rs)
  | 0x2b => .ok (.sw rt imm rs)
  | 0x2e => .ok (.swr rt imm rs)
  | 0x30 => .ok (.ll rt imm rs)
  | 0x31 => .ok (.lwc1 rt imm rs)
  | 0x35 => .ok (.ldc1 rt imm rs)
  | 0x38 => .ok (.sc rt imm rs)
  | 0x39 => .ok (.swc1 rt imm rs)
  | 0x3d => .ok (.sdc1 rt imm rs)
  | _ => .error (.reservedOp (opField w))

/-- The word that four bytes in memory make, lowest address first (R62, R64, R100). -/
def wordOfBytes (bigEndian : Bool) (bs : List Byte) : Word :=
  BitVec.ofNat 32 (Machine.bytesToNat bigEndian (bs.take 4))

/-- The decoder on any bytes, in the byte order of the run (R62, R100). -/
def decodeBytes (p : Config.Params) (bs : List Byte) : Except DecodeError Instr :=
  if bs.length < 4 then .error .truncated else decode p (wordOfBytes p.bigEndian bs)

/-! ## The encoder -/

/-- A field of a word, its lowest bit at bit `lo` (R5, R101). -/
def fieldAt (lo : Nat) {n : Nat} (v : BitVec n) : Word :=
  v.setWidth 32 <<< lo

/-- `6 5 5 5 5 6` (R102, R105). -/
def rType (op : BitVec 6) (rs rt rd shamt : BitVec 5) (funct : BitVec 6) : Word :=
  fieldAt 26 op ||| fieldAt 21 rs ||| fieldAt 16 rt ||| fieldAt 11 rd ||| fieldAt 6 shamt ||| fieldAt 0 funct

/-- `6 5 5 16` (R103). -/
def iType (op : BitVec 6) (rs rt : BitVec 5) (imm : BitVec 16) : Word :=
  fieldAt 26 op ||| fieldAt 21 rs ||| fieldAt 16 rt ||| fieldAt 0 imm

/-- `6 26` (R104). -/
def jType (op : BitVec 6) (target : BitVec 26) : Word :=
  fieldAt 26 op ||| fieldAt 0 target

/-- `6 20 6` (R102). -/
def codeType (op : BitVec 6) (code : BitVec 20) (funct : BitVec 6) : Word :=
  fieldAt 26 op ||| fieldAt 6 code ||| fieldAt 0 funct

/-- Bits 20:16 of a row with `cc` in 20:18 and `tf` in 17:16 (R101). -/
def ccAndSense (cc : BitVec 3) (tf : BitVec 2) : BitVec 5 :=
  (cc.setWidth 5 <<< 2) ||| tf.setWidth 5

/-- Bits 10:6 of a compare: `cc` in 10:8, zero in 7:6 (R101, R105). -/
def ccOfCompare (cc : BitVec 3) : BitVec 5 :=
  cc.setWidth 5 <<< 2

/-- The word of an instruction, from its encoding row (R101 to R105). A bit that the row leaves out (`rs` of the
immediate shifts, R129) is written 0 (log 33). -/
def encode : Instr → Word
  | .add rd rs rt => rType 0x00#6 rs rt rd 0x00#5 0x20#6
  | .addu rd rs rt => rType 0x00#6 rs rt rd 0x00#5 0x21#6
  | .addi rt rs imm => iType 0x08#6 rs rt imm
  | .addiu rt rs imm => iType 0x09#6 rs rt imm
  | .and rd rs rt => rType 0x00#6 rs rt rd 0x00#5 0x24#6
  | .andi rt rs imm => iType 0x0c#6 rs rt imm
  | .clo rd rs => rType 0x1c#6 rs 0x00#5 rd 0x00#5 0x21#6
  | .clz rd rs => rType 0x1c#6 rs 0x00#5 rd 0x00#5 0x20#6
  | .div rs rt => rType 0x00#6 rs rt 0x00#5 0x00#5 0x1a#6
  | .divu rs rt => rType 0x00#6 rs rt 0x00#5 0x00#5 0x1b#6
  | .mult rs rt => rType 0x00#6 rs rt 0x00#5 0x00#5 0x18#6
  | .multu rs rt => rType 0x00#6 rs rt 0x00#5 0x00#5 0x19#6
  | .mul rd rs rt => rType 0x1c#6 rs rt rd 0x00#5 0x02#6
  | .madd rs rt => rType 0x1c#6 rs rt 0x00#5 0x00#5 0x00#6
  | .maddu rs rt => rType 0x1c#6 rs rt 0x00#5 0x00#5 0x01#6
  | .msub rs rt => rType 0x1c#6 rs rt 0x00#5 0x00#5 0x04#6
  | .msubu rs rt => rType 0x1c#6 rs rt 0x00#5 0x00#5 0x05#6
  | .nor rd rs rt => rType 0x00#6 rs rt rd 0x00#5 0x27#6
  | .or rd rs rt => rType 0x00#6 rs rt rd 0x00#5 0x25#6
  | .ori rt rs imm => iType 0x0d#6 rs rt imm
  | .sll rd rt shamt => rType 0x00#6 0x00#5 rt rd shamt 0x00#6
  | .sllv rd rt rs => rType 0x00#6 rs rt rd 0x00#5 0x04#6
  | .sra rd rt shamt => rType 0x00#6 0x00#5 rt rd shamt 0x03#6
  | .srav rd rt rs => rType 0x00#6 rs rt rd 0x00#5 0x07#6
  | .srl rd rt shamt => rType 0x00#6 0x00#5 rt rd shamt 0x02#6
  | .srlv rd rt rs => rType 0x00#6 rs rt rd 0x00#5 0x06#6
  | .sub rd rs rt => rType 0x00#6 rs rt rd 0x00#5 0x22#6
  | .subu rd rs rt => rType 0x00#6 rs rt rd 0x00#5 0x23#6
  | .xor rd rs rt => rType 0x00#6 rs rt rd 0x00#5 0x26#6
  | .xori rt rs imm => iType 0x0e#6 rs rt imm
  | .lui rt imm => iType 0x0f#6 0x00#5 rt imm
  | .slt rd rs rt => rType 0x00#6 rs rt rd 0x00#5 0x2a#6
  | .sltu rd rs rt => rType 0x00#6 rs rt rd 0x00#5 0x2b#6
  | .slti rt rs imm => iType 0x0a#6 rs rt imm
  | .sltiu rt rs imm => iType 0x0b#6 rs rt imm
  | .bc1f cc off => iType 0x11#6 0x08#5 (ccAndSense cc 0x0#2) off
  | .bc1t cc off => iType 0x11#6 0x08#5 (ccAndSense cc 0x1#2) off
  | .beq rs rt off => iType 0x04#6 rs rt off
  | .bgez rs off => iType 0x01#6 rs 0x01#5 off
  | .bgezal rs off => iType 0x01#6 rs 0x11#5 off
  | .bgtz rs off => iType 0x07#6 rs 0x00#5 off
  | .blez rs off => iType 0x06#6 rs 0x00#5 off
  | .bltzal rs off => iType 0x01#6 rs 0x10#5 off
  | .bltz rs off => iType 0x01#6 rs 0x00#5 off
  | .bne rs rt off => iType 0x05#6 rs rt off
  | .bc1fl cc off => iType 0x11#6 0x08#5 (ccAndSense cc 0x2#2) off
  | .bc1tl cc off => iType 0x11#6 0x08#5 (ccAndSense cc 0x3#2) off
  | .beql rs rt off => iType 0x14#6 rs rt off
  | .bgezl rs off => iType 0x01#6 rs 0x03#5 off
  | .bgezall rs off => iType 0x01#6 rs 0x13#5 off
  | .bgtzl rs off => iType 0x17#6 rs 0x00#5 off
  | .blezl rs off => iType 0x16#6 rs 0x00#5 off
  | .bltzall rs off => iType 0x01#6 rs 0x12#5 off
  | .bltzl rs off => iType 0x01#6 rs 0x02#5 off
  | .bnel rs rt off => iType 0x15#6 rs rt off
  | .j target => jType 0x02#6 target
  | .jal target => jType 0x03#6 target
  | .jalr rs rd => rType 0x00#6 rs 0x00#5 rd 0x00#5 0x09#6
  | .jr rs => rType 0x00#6 rs 0x00#5 0x00#5 0x00#5 0x08#6
  | .teq rs rt => rType 0x00#6 rs rt 0x00#5 0x00#5 0x34#6
  | .teqi rs imm => iType 0x01#6 rs 0x0c#5 imm
  | .tne rs rt => rType 0x00#6 rs rt 0x00#5 0x00#5 0x36#6
  | .tnei rs imm => iType 0x01#6 rs 0x0e#5 imm
  | .tge rs rt => rType 0x00#6 rs rt 0x00#5 0x00#5 0x30#6
  | .tgeu rs rt => rType 0x00#6 rs rt 0x00#5 0x00#5 0x31#6
  | .tgei rs imm => iType 0x01#6 rs 0x08#5 imm
  | .tgeiu rs imm => iType 0x01#6 rs 0x09#5 imm
  | .tlt rs rt => rType 0x00#6 rs rt 0x00#5 0x00#5 0x32#6
  | .tltu rs rt => rType 0x00#6 rs rt 0x00#5 0x00#5 0x33#6
  | .tlti rs imm => iType 0x01#6 rs 0x0a#5 imm
  | .tltiu rs imm => iType 0x01#6 rs 0x0b#5 imm
  | .lb rt off rs => iType 0x20#6 rs rt off
  | .lbu rt off rs => iType 0x24#6 rs rt off
  | .lh rt off rs => iType 0x21#6 rs rt off
  | .lhu rt off rs => iType 0x25#6 rs rt off
  | .lw rt off rs => iType 0x23#6 rs rt off
  | .lwc1 ft off rs => iType 0x31#6 rs ft off
  | .ldc1 ft off rs => iType 0x35#6 rs ft off
  | .lwl rt off rs => iType 0x22#6 rs rt off
  | .lwr rt off rs => iType 0x26#6 rs rt off
  | .ll rt off rs => iType 0x30#6 rs rt off
  | .sb rt off rs => iType 0x28#6 rs rt off
  | .sh rt off rs => iType 0x29#6 rs rt off
  | .sw rt off rs => iType 0x2b#6 rs rt off
  | .swc1 ft off rs => iType 0x39#6 rs ft off
  | .sdc1 ft off rs => iType 0x3d#6 rs ft off
  | .swl rt off rs => iType 0x2a#6 rs rt off
  | .swr rt off rs => iType 0x2e#6 rs rt off
  | .sc rt off rs => iType 0x38#6 rs rt off
  | .mfhi rd => rType 0x00#6 0x00#5 0x00#5 rd 0x00#5 0x10#6
  | .mflo rd => rType 0x00#6 0x00#5 0x00#5 rd 0x00#5 0x12#6
  | .mthi rs => rType 0x00#6 rs 0x00#5 0x00#5 0x00#5 0x11#6
  | .mtlo rs => rType 0x00#6 rs 0x00#5 0x00#5 0x00#5 0x13#6
  | .mfc0 rt rd => rType 0x10#6 0x00#5 rt rd 0x00#5 0x00#6
  | .mfc1 rt fs => rType 0x11#6 0x00#5 rt fs 0x00#5 0x00#6
  | .mtc0 rt rd => rType 0x10#6 0x04#5 rt rd 0x00#5 0x00#6
  | .mtc1 rt fs => rType 0x11#6 0x04#5 rt fs 0x00#5 0x00#6
  | .movn rd rs rt => rType 0x00#6 rs rt rd 0x00#5 0x0b#6
  | .movz rd rs rt => rType 0x00#6 rs rt rd 0x00#5 0x0a#6
  | .movf rd rs cc => rType 0x00#6 rs (ccAndSense cc 0x0#2) rd 0x00#5 0x01#6
  | .movt rd rs cc => rType 0x00#6 rs (ccAndSense cc 0x1#2) rd 0x00#5 0x01#6
  | .absD fd fs => rType 0x11#6 0x11#5 0x00#5 fs fd 0x05#6
  | .absS fd fs => rType 0x11#6 0x10#5 0x00#5 fs fd 0x05#6
  | .addD fd fs ft => rType 0x11#6 0x11#5 ft fs fd 0x00#6
  | .addS fd fs ft => rType 0x11#6 0x10#5 ft fs fd 0x00#6
  | .ceilWD fd fs => rType 0x11#6 0x11#5 0x00#5 fs fd 0x0e#6
  | .ceilWS fd fs => rType 0x11#6 0x10#5 0x00#5 fs fd 0x0e#6
  | .cEqD cc fs ft => rType 0x11#6 0x11#5 ft fs (ccOfCompare cc) 0x32#6
  | .cEqS cc fs ft => rType 0x11#6 0x10#5 ft fs (ccOfCompare cc) 0x32#6
  | .cLeD cc fs ft => rType 0x11#6 0x11#5 ft fs (ccOfCompare cc) 0x3e#6
  | .cLeS cc fs ft => rType 0x11#6 0x10#5 ft fs (ccOfCompare cc) 0x3e#6
  | .cLtD cc fs ft => rType 0x11#6 0x11#5 ft fs (ccOfCompare cc) 0x3c#6
  | .cLtS cc fs ft => rType 0x11#6 0x10#5 ft fs (ccOfCompare cc) 0x3c#6
  | .cvtDS fd fs => rType 0x11#6 0x10#5 0x00#5 fs fd 0x21#6
  | .cvtDW fd fs => rType 0x11#6 0x14#5 0x00#5 fs fd 0x21#6
  | .cvtSD fd fs => rType 0x11#6 0x11#5 0x00#5 fs fd 0x20#6
  | .cvtSW fd fs => rType 0x11#6 0x14#5 0x00#5 fs fd 0x20#6
  | .cvtWD fd fs => rType 0x11#6 0x11#5 0x00#5 fs fd 0x24#6
  | .cvtWS fd fs => rType 0x11#6 0x10#5 0x00#5 fs fd 0x24#6
  | .divD fd fs ft => rType 0x11#6 0x11#5 ft fs fd 0x03#6
  | .divS fd fs ft => rType 0x11#6 0x10#5 ft fs fd 0x03#6
  | .floorWD fd fs => rType 0x11#6 0x11#5 0x00#5 fs fd 0x0f#6
  | .floorWS fd fs => rType 0x11#6 0x10#5 0x00#5 fs fd 0x0f#6
  | .movD fd fs => rType 0x11#6 0x11#5 0x00#5 fs fd 0x06#6
  | .movS fd fs => rType 0x11#6 0x10#5 0x00#5 fs fd 0x06#6
  | .movfD fd fs cc => rType 0x11#6 0x11#5 (ccAndSense cc 0x0#2) fs fd 0x11#6
  | .movfS fd fs cc => rType 0x11#6 0x10#5 (ccAndSense cc 0x0#2) fs fd 0x11#6
  | .movtD fd fs cc => rType 0x11#6 0x11#5 (ccAndSense cc 0x1#2) fs fd 0x11#6
  | .movtS fd fs cc => rType 0x11#6 0x10#5 (ccAndSense cc 0x1#2) fs fd 0x11#6
  | .movnD fd fs rt => rType 0x11#6 0x11#5 rt fs fd 0x13#6
  | .movnS fd fs rt => rType 0x11#6 0x10#5 rt fs fd 0x13#6
  | .movzD fd fs rt => rType 0x11#6 0x11#5 rt fs fd 0x12#6
  | .movzS fd fs rt => rType 0x11#6 0x10#5 rt fs fd 0x12#6
  | .mulD fd fs ft => rType 0x11#6 0x11#5 ft fs fd 0x02#6
  | .mulS fd fs ft => rType 0x11#6 0x10#5 ft fs fd 0x02#6
  | .negD fd fs => rType 0x11#6 0x11#5 0x00#5 fs fd 0x07#6
  | .negS fd fs => rType 0x11#6 0x10#5 0x00#5 fs fd 0x07#6
  | .roundWD fd fs => rType 0x11#6 0x11#5 0x00#5 fs fd 0x0c#6
  | .roundWS fd fs => rType 0x11#6 0x10#5 0x00#5 fs fd 0x0c#6
  | .sqrtD fd fs => rType 0x11#6 0x11#5 0x00#5 fs fd 0x04#6
  | .sqrtS fd fs => rType 0x11#6 0x10#5 0x00#5 fs fd 0x04#6
  | .subD fd fs ft => rType 0x11#6 0x11#5 ft fs fd 0x01#6
  | .subS fd fs ft => rType 0x11#6 0x10#5 ft fs fd 0x01#6
  | .truncWD fd fs => rType 0x11#6 0x11#5 0x00#5 fs fd 0x0d#6
  | .truncWS fd fs => rType 0x11#6 0x10#5 0x00#5 fs fd 0x0d#6
  | .eret => rType 0x10#6 0x10#5 0x00#5 0x00#5 0x00#5 0x18#6
  | .syscall => rType 0x00#6 0x00#5 0x00#5 0x00#5 0x00#5 0x0c#6
  | .brk code => codeType 0x00#6 code 0x0d#6
  | .nop => rType 0x00#6 0x00#5 0x00#5 0x00#5 0x00#5 0x00#6

/-! ## The opcode table (spec/opcode_table.json) -/

/-- A row of the table: a word `w` is the row's when `w` masked by `mask` is `bits`; without
`STRICT_ZERO_FIELDS` by `relaxedMask` instead, which is `mask` where the table gives none (R128, R129). -/
structure OpcodeRow where
  bits : Word
  mask : Word
  relaxedMask : Word
deriving DecidableEq, Repr

/-- The mask in force (R129). -/
def OpcodeRow.maskFor (p : Config.Params) (r : OpcodeRow) : Word :=
  if p.strictZeroFields then r.mask else r.relaxedMask

/-- The table's row for an instruction. -/
def opcodeRow : Instr → OpcodeRow
  | .add _ _ _ => ⟨0x00000020#32, 0xFC0007FF#32, 0xFC0007FF#32⟩
  | .addu _ _ _ => ⟨0x00000021#32, 0xFC0007FF#32, 0xFC0007FF#32⟩
  | .addi _ _ _ => ⟨0x20000000#32, 0xFC000000#32, 0xFC000000#32⟩
  | .addiu _ _ _ => ⟨0x24000000#32, 0xFC000000#32, 0xFC000000#32⟩
  | .and _ _ _ => ⟨0x00000024#32, 0xFC0007FF#32, 0xFC0007FF#32⟩
  | .andi _ _ _ => ⟨0x30000000#32, 0xFC000000#32, 0xFC000000#32⟩
  | .clo _ _ => ⟨0x70000021#32, 0xFC1F07FF#32, 0xFC0007FF#32⟩
  | .clz _ _ => ⟨0x70000020#32, 0xFC1F07FF#32, 0xFC0007FF#32⟩
  | .div _ _ => ⟨0x0000001A#32, 0xFC00FFFF#32, 0xFC00FFFF#32⟩
  | .divu _ _ => ⟨0x0000001B#32, 0xFC00FFFF#32, 0xFC00FFFF#32⟩
  | .mult _ _ => ⟨0x00000018#32, 0xFC00FFFF#32, 0xFC00FFFF#32⟩
  | .multu _ _ => ⟨0x00000019#32, 0xFC00FFFF#32, 0xFC00FFFF#32⟩
  | .mul _ _ _ => ⟨0x70000002#32, 0xFC0007FF#32, 0xFC0007FF#32⟩
  | .madd _ _ => ⟨0x70000000#32, 0xFC00FFFF#32, 0xFC00FFFF#32⟩
  | .maddu _ _ => ⟨0x70000001#32, 0xFC00FFFF#32, 0xFC00FFFF#32⟩
  | .msub _ _ => ⟨0x70000004#32, 0xFC00FFFF#32, 0xFC00FFFF#32⟩
  | .msubu _ _ => ⟨0x70000005#32, 0xFC00FFFF#32, 0xFC00FFFF#32⟩
  | .nor _ _ _ => ⟨0x00000027#32, 0xFC0007FF#32, 0xFC0007FF#32⟩
  | .or _ _ _ => ⟨0x00000025#32, 0xFC0007FF#32, 0xFC0007FF#32⟩
  | .ori _ _ _ => ⟨0x34000000#32, 0xFC000000#32, 0xFC000000#32⟩
  | .sll _ _ _ => ⟨0x00000000#32, 0xFC00003F#32, 0xFC00003F#32⟩
  | .sllv _ _ _ => ⟨0x00000004#32, 0xFC0007FF#32, 0xFC0007FF#32⟩
  | .sra _ _ _ => ⟨0x00000003#32, 0xFC00003F#32, 0xFC00003F#32⟩
  | .srav _ _ _ => ⟨0x00000007#32, 0xFC0007FF#32, 0xFC0007FF#32⟩
  | .srl _ _ _ => ⟨0x00000002#32, 0xFC00003F#32, 0xFC00003F#32⟩
  | .srlv _ _ _ => ⟨0x00000006#32, 0xFC0007FF#32, 0xFC0007FF#32⟩
  | .sub _ _ _ => ⟨0x00000022#32, 0xFC0007FF#32, 0xFC0007FF#32⟩
  | .subu _ _ _ => ⟨0x00000023#32, 0xFC0007FF#32, 0xFC0007FF#32⟩
  | .xor _ _ _ => ⟨0x00000026#32, 0xFC0007FF#32, 0xFC0007FF#32⟩
  | .xori _ _ _ => ⟨0x38000000#32, 0xFC000000#32, 0xFC000000#32⟩
  | .lui _ _ => ⟨0x3C000000#32, 0xFFE00000#32, 0xFFE00000#32⟩
  | .slt _ _ _ => ⟨0x0000002A#32, 0xFC0007FF#32, 0xFC0007FF#32⟩
  | .sltu _ _ _ => ⟨0x0000002B#32, 0xFC0007FF#32, 0xFC0007FF#32⟩
  | .slti _ _ _ => ⟨0x28000000#32, 0xFC000000#32, 0xFC000000#32⟩
  | .sltiu _ _ _ => ⟨0x2C000000#32, 0xFC000000#32, 0xFC000000#32⟩
  | .bc1f _ _ => ⟨0x45000000#32, 0xFFE30000#32, 0xFFE30000#32⟩
  | .bc1t _ _ => ⟨0x45010000#32, 0xFFE30000#32, 0xFFE30000#32⟩
  | .beq _ _ _ => ⟨0x10000000#32, 0xFC000000#32, 0xFC000000#32⟩
  | .bgez _ _ => ⟨0x04010000#32, 0xFC1F0000#32, 0xFC1F0000#32⟩
  | .bgezal _ _ => ⟨0x04110000#32, 0xFC1F0000#32, 0xFC1F0000#32⟩
  | .bgtz _ _ => ⟨0x1C000000#32, 0xFC1F0000#32, 0xFC1F0000#32⟩
  | .blez _ _ => ⟨0x18000000#32, 0xFC1F0000#32, 0xFC1F0000#32⟩
  | .bltzal _ _ => ⟨0x04100000#32, 0xFC1F0000#32, 0xFC1F0000#32⟩
  | .bltz _ _ => ⟨0x04000000#32, 0xFC1F0000#32, 0xFC1F0000#32⟩
  | .bne _ _ _ => ⟨0x14000000#32, 0xFC000000#32, 0xFC000000#32⟩
  | .bc1fl _ _ => ⟨0x45020000#32, 0xFFE30000#32, 0xFFE30000#32⟩
  | .bc1tl _ _ => ⟨0x45030000#32, 0xFFE30000#32, 0xFFE30000#32⟩
  | .beql _ _ _ => ⟨0x50000000#32, 0xFC000000#32, 0xFC000000#32⟩
  | .bgezl _ _ => ⟨0x04030000#32, 0xFC1F0000#32, 0xFC1F0000#32⟩
  | .bgezall _ _ => ⟨0x04130000#32, 0xFC1F0000#32, 0xFC1F0000#32⟩
  | .bgtzl _ _ => ⟨0x5C000000#32, 0xFC1F0000#32, 0xFC1F0000#32⟩
  | .blezl _ _ => ⟨0x58000000#32, 0xFC1F0000#32, 0xFC1F0000#32⟩
  | .bltzall _ _ => ⟨0x04120000#32, 0xFC1F0000#32, 0xFC1F0000#32⟩
  | .bltzl _ _ => ⟨0x04020000#32, 0xFC1F0000#32, 0xFC1F0000#32⟩
  | .bnel _ _ _ => ⟨0x54000000#32, 0xFC000000#32, 0xFC000000#32⟩
  | .j _ => ⟨0x08000000#32, 0xFC000000#32, 0xFC000000#32⟩
  | .jal _ => ⟨0x0C000000#32, 0xFC000000#32, 0xFC000000#32⟩
  | .jalr _ _ => ⟨0x00000009#32, 0xFC1F07FF#32, 0xFC1F003F#32⟩
  | .jr _ => ⟨0x00000008#32, 0xFC1FFFFF#32, 0xFC1FF83F#32⟩
  | .teq _ _ => ⟨0x00000034#32, 0xFC00FFFF#32, 0xFC00003F#32⟩
  | .teqi _ _ => ⟨0x040C0000#32, 0xFC1F0000#32, 0xFC1F0000#32⟩
  | .tne _ _ => ⟨0x00000036#32, 0xFC00FFFF#32, 0xFC00003F#32⟩
  | .tnei _ _ => ⟨0x040E0000#32, 0xFC1F0000#32, 0xFC1F0000#32⟩
  | .tge _ _ => ⟨0x00000030#32, 0xFC00FFFF#32, 0xFC00003F#32⟩
  | .tgeu _ _ => ⟨0x00000031#32, 0xFC00FFFF#32, 0xFC00003F#32⟩
  | .tgei _ _ => ⟨0x04080000#32, 0xFC1F0000#32, 0xFC1F0000#32⟩
  | .tgeiu _ _ => ⟨0x04090000#32, 0xFC1F0000#32, 0xFC1F0000#32⟩
  | .tlt _ _ => ⟨0x00000032#32, 0xFC00FFFF#32, 0xFC00003F#32⟩
  | .tltu _ _ => ⟨0x00000033#32, 0xFC00FFFF#32, 0xFC00003F#32⟩
  | .tlti _ _ => ⟨0x040A0000#32, 0xFC1F0000#32, 0xFC1F0000#32⟩
  | .tltiu _ _ => ⟨0x040B0000#32, 0xFC1F0000#32, 0xFC1F0000#32⟩
  | .lb _ _ _ => ⟨0x80000000#32, 0xFC000000#32, 0xFC000000#32⟩
  | .lbu _ _ _ => ⟨0x90000000#32, 0xFC000000#32, 0xFC000000#32⟩
  | .lh _ _ _ => ⟨0x84000000#32, 0xFC000000#32, 0xFC000000#32⟩
  | .lhu _ _ _ => ⟨0x94000000#32, 0xFC000000#32, 0xFC000000#32⟩
  | .lw _ _ _ => ⟨0x8C000000#32, 0xFC000000#32, 0xFC000000#32⟩
  | .lwc1 _ _ _ => ⟨0xC4000000#32, 0xFC000000#32, 0xFC000000#32⟩
  | .ldc1 _ _ _ => ⟨0xD4000000#32, 0xFC000000#32, 0xFC000000#32⟩
  | .lwl _ _ _ => ⟨0x88000000#32, 0xFC000000#32, 0xFC000000#32⟩
  | .lwr _ _ _ => ⟨0x98000000#32, 0xFC000000#32, 0xFC000000#32⟩
  | .ll _ _ _ => ⟨0xC0000000#32, 0xFC000000#32, 0xFC000000#32⟩
  | .sb _ _ _ => ⟨0xA0000000#32, 0xFC000000#32, 0xFC000000#32⟩
  | .sh _ _ _ => ⟨0xA4000000#32, 0xFC000000#32, 0xFC000000#32⟩
  | .sw _ _ _ => ⟨0xAC000000#32, 0xFC000000#32, 0xFC000000#32⟩
  | .swc1 _ _ _ => ⟨0xE4000000#32, 0xFC000000#32, 0xFC000000#32⟩
  | .sdc1 _ _ _ => ⟨0xF4000000#32, 0xFC000000#32, 0xFC000000#32⟩
  | .swl _ _ _ => ⟨0xA8000000#32, 0xFC000000#32, 0xFC000000#32⟩
  | .swr _ _ _ => ⟨0xB8000000#32, 0xFC000000#32, 0xFC000000#32⟩
  | .sc _ _ _ => ⟨0xE0000000#32, 0xFC000000#32, 0xFC000000#32⟩
  | .mfhi _ => ⟨0x00000010#32, 0xFFFF07FF#32, 0xFFFF07FF#32⟩
  | .mflo _ => ⟨0x00000012#32, 0xFFFF07FF#32, 0xFFFF07FF#32⟩
  | .mthi _ => ⟨0x00000011#32, 0xFC1FFFFF#32, 0xFC1FFFFF#32⟩
  | .mtlo _ => ⟨0x00000013#32, 0xFC1FFFFF#32, 0xFC1FFFFF#32⟩
  | .mfc0 _ _ => ⟨0x40000000#32, 0xFFE007FF#32, 0xFFE007FF#32⟩
  | .mfc1 _ _ => ⟨0x44000000#32, 0xFFE007FF#32, 0xFFE007FF#32⟩
  | .mtc0 _ _ => ⟨0x40800000#32, 0xFFE007FF#32, 0xFFE007FF#32⟩
  | .mtc1 _ _ => ⟨0x44800000#32, 0xFFE007FF#32, 0xFFE007FF#32⟩
  | .movn _ _ _ => ⟨0x0000000B#32, 0xFC0007FF#32, 0xFC0007FF#32⟩
  | .movz _ _ _ => ⟨0x0000000A#32, 0xFC0007FF#32, 0xFC0007FF#32⟩
  | .movf _ _ _ => ⟨0x00000001#32, 0xFC0307FF#32, 0xFC0307FF#32⟩
  | .movt _ _ _ => ⟨0x00010001#32, 0xFC0307FF#32, 0xFC0307FF#32⟩
  | .absD _ _ => ⟨0x46200005#32, 0xFFFF003F#32, 0xFFFF003F#32⟩
  | .absS _ _ => ⟨0x46000005#32, 0xFFFF003F#32, 0xFFFF003F#32⟩
  | .addD _ _ _ => ⟨0x46200000#32, 0xFFE0003F#32, 0xFFE0003F#32⟩
  | .addS _ _ _ => ⟨0x46000000#32, 0xFFE0003F#32, 0xFFE0003F#32⟩
  | .ceilWD _ _ => ⟨0x4620000E#32, 0xFFFF003F#32, 0xFFFF003F#32⟩
  | .ceilWS _ _ => ⟨0x4600000E#32, 0xFFFF003F#32, 0xFFFF003F#32⟩
  | .cEqD _ _ _ => ⟨0x46200032#32, 0xFFE000FF#32, 0xFFE000FF#32⟩
  | .cEqS _ _ _ => ⟨0x46000032#32, 0xFFE000FF#32, 0xFFE000FF#32⟩
  | .cLeD _ _ _ => ⟨0x4620003E#32, 0xFFE000FF#32, 0xFFE000FF#32⟩
  | .cLeS _ _ _ => ⟨0x4600003E#32, 0xFFE000FF#32, 0xFFE000FF#32⟩
  | .cLtD _ _ _ => ⟨0x4620003C#32, 0xFFE000FF#32, 0xFFE000FF#32⟩
  | .cLtS _ _ _ => ⟨0x4600003C#32, 0xFFE000FF#32, 0xFFE000FF#32⟩
  | .cvtDS _ _ => ⟨0x46000021#32, 0xFFFF003F#32, 0xFFFF003F#32⟩
  | .cvtDW _ _ => ⟨0x46800021#32, 0xFFFF003F#32, 0xFFFF003F#32⟩
  | .cvtSD _ _ => ⟨0x46200020#32, 0xFFFF003F#32, 0xFFFF003F#32⟩
  | .cvtSW _ _ => ⟨0x46800020#32, 0xFFFF003F#32, 0xFFFF003F#32⟩
  | .cvtWD _ _ => ⟨0x46200024#32, 0xFFFF003F#32, 0xFFFF003F#32⟩
  | .cvtWS _ _ => ⟨0x46000024#32, 0xFFFF003F#32, 0xFFFF003F#32⟩
  | .divD _ _ _ => ⟨0x46200003#32, 0xFFE0003F#32, 0xFFE0003F#32⟩
  | .divS _ _ _ => ⟨0x46000003#32, 0xFFE0003F#32, 0xFFE0003F#32⟩
  | .floorWD _ _ => ⟨0x4620000F#32, 0xFFFF003F#32, 0xFFFF003F#32⟩
  | .floorWS _ _ => ⟨0x4600000F#32, 0xFFFF003F#32, 0xFFFF003F#32⟩
  | .movD _ _ => ⟨0x46200006#32, 0xFFFF003F#32, 0xFFFF003F#32⟩
  | .movS _ _ => ⟨0x46000006#32, 0xFFFF003F#32, 0xFFFF003F#32⟩
  | .movfD _ _ _ => ⟨0x46200011#32, 0xFFE3003F#32, 0xFFE3003F#32⟩
  | .movfS _ _ _ => ⟨0x46000011#32, 0xFFE3003F#32, 0xFFE3003F#32⟩
  | .movtD _ _ _ => ⟨0x46210011#32, 0xFFE3003F#32, 0xFFE3003F#32⟩
  | .movtS _ _ _ => ⟨0x46010011#32, 0xFFE3003F#32, 0xFFE3003F#32⟩
  | .movnD _ _ _ => ⟨0x46200013#32, 0xFFE0003F#32, 0xFFE0003F#32⟩
  | .movnS _ _ _ => ⟨0x46000013#32, 0xFFE0003F#32, 0xFFE0003F#32⟩
  | .movzD _ _ _ => ⟨0x46200012#32, 0xFFE0003F#32, 0xFFE0003F#32⟩
  | .movzS _ _ _ => ⟨0x46000012#32, 0xFFE0003F#32, 0xFFE0003F#32⟩
  | .mulD _ _ _ => ⟨0x46200002#32, 0xFFE0003F#32, 0xFFE0003F#32⟩
  | .mulS _ _ _ => ⟨0x46000002#32, 0xFFE0003F#32, 0xFFE0003F#32⟩
  | .negD _ _ => ⟨0x46200007#32, 0xFFFF003F#32, 0xFFFF003F#32⟩
  | .negS _ _ => ⟨0x46000007#32, 0xFFFF003F#32, 0xFFFF003F#32⟩
  | .roundWD _ _ => ⟨0x4620000C#32, 0xFFFF003F#32, 0xFFFF003F#32⟩
  | .roundWS _ _ => ⟨0x4600000C#32, 0xFFFF003F#32, 0xFFFF003F#32⟩
  | .sqrtD _ _ => ⟨0x46200004#32, 0xFFFF003F#32, 0xFFFF003F#32⟩
  | .sqrtS _ _ => ⟨0x46000004#32, 0xFFFF003F#32, 0xFFFF003F#32⟩
  | .subD _ _ _ => ⟨0x46200001#32, 0xFFE0003F#32, 0xFFE0003F#32⟩
  | .subS _ _ _ => ⟨0x46000001#32, 0xFFE0003F#32, 0xFFE0003F#32⟩
  | .truncWD _ _ => ⟨0x4620000D#32, 0xFFFF003F#32, 0xFFFF003F#32⟩
  | .truncWS _ _ => ⟨0x4600000D#32, 0xFFFF003F#32, 0xFFFF003F#32⟩
  | .eret => ⟨0x42000018#32, 0xFFFFFFFF#32, 0xFFFFFFFF#32⟩
  | .syscall => ⟨0x0000000C#32, 0xFFFFFFFF#32, 0xFC00003F#32⟩
  | .brk _ => ⟨0x0000000D#32, 0xFC00003F#32, 0xFC00003F#32⟩
  | .nop => ⟨0x00000000#32, 0xFFFFFFFF#32, 0xFFFFFFFF#32⟩

/-! ## What the host asks -/

/-- The instruction the decoder reads from the bits `w` of an opcode-table row, laid out in memory as the machine
stores a word after reset. -/
def decodeTableWord (nbits w : Nat) : Option Instr :=
  let p := Machine.defaultParams
  match decodeBytes p (Machine.natToBytes p.bigEndian 4 (w % 2 ^ nbits)) with
  | .ok i => some i
  | .error _ => none

end Sys2Proof
end

