-- ==== Sys2Proof/Machine/State.lean ====
section
/-!
DEFINITION. The state of the machine (spec/10_state.md), the exceptions it can raise, the reasons the model stops,
and the state after reset.
-/

namespace Sys2Proof.Machine

/-- Memory (R38, R60): the bytes that differ from what an unlisted address reads as, addresses strictly rising. -/
abbrev Memory := List Host.Cell

/-- What the outside world does at the start of one step: the levels of the six external interrupt lines, IP2 in
bit 0 to IP7 in bit 5 (R510, R511; log 25), and the bytes other agents write (R73; log 26). -/
structure Event where
  lines : BitVec 6
  writes : List (Word × Byte)
deriving DecidableEq, Repr

/-- The exceptions of R9 and R501, with the bad address of an address error. -/
inductive Exc where
  | interrupt
  | addressErrorLoad (addr : Word)
  | addressErrorStore (addr : Word)
  | busErrorFetch
  | busErrorData
  | syscall
  | breakpoint
  | reservedInstruction
  /-- Never raised: coprocessors 0 and 1 are always usable (R521). -/
  | coprocessorUnusable
  | overflow
  | trap
deriving DecidableEq, Repr

/-- The state. The last three fields are the model's own (logs 1, 11, 25, 26). -/
structure State where
  /-- `x[0]` to `x[31]` (R20); read and written through `State.getGpr` and `State.setGpr` only (R22). -/
  gpr : Vector Word 32
  /-- Address of the instruction being executed (R24). -/
  pc : Word
  /-- Address of the instruction that executes next (R25). -/
  npc : Word
  /-- The instruction at `pc` is in the delay slot of a branch or jump (R25). -/
  inDelaySlot : Bool
  /-- `hi` (R26). -/
  hi : Word
  /-- `lo` (R26). -/
  lo : Word
  /-- `Status`, `c0[12]` (R28). -/
  status : Word
  /-- `Cause`, `c0[13]` (R30). -/
  cause : Word
  /-- `EPC`, `c0[14]` (R29). -/
  epc : Word
  /-- `BadVAddr`, `c0[8]` (R31). -/
  badVAddr : Word
  /-- `f[0]` to `f[31]` (R33). -/
  fpr : Vector Word 32
  /-- `fcc[0]` to `fcc[7]` (R35). -/
  fcc : Vector Bool 8
  /-- `LLbit` (R37). -/
  llBit : Bool
  /-- `LLaddr` (R37). -/
  llAddr : Word
  /-- Memory (R38). -/
  mem : Memory
  /-- The parameters of R4, which no step changes (log 1). -/
  params : Config.Params
  /-- What the outside world does at each of the coming steps, the next one first (logs 25, 26). -/
  inputs : List Event
  /-- How many free values have been drawn (log 11). -/
  draws : Nat
deriving DecidableEq, Repr

/-- Why the machine stops. -/
inductive Fault where
  /-- `break 1`, reserved for the debugger: the run ends (R482, U2, D39). Raised by `break`. Safe (log 19). -/
  | debuggerBreak
  /-- A host service ended the run (R481, D39). Raised by `syscall` when `SYSCALL_MODE` is `host`. Safe (log 18). -/
  | hostEndedRun
deriving DecidableEq, Repr

/-- What the model gives no meaning. Each but the first is a case that spec/93_implementation_defined.md treats as
`refuse`. -/
inductive Refusal where
  /-- The instruction has no meaning yet. Raised by `exec`. Safe. -/
  | notModelled (mnemonic : String)
  /-- A branch, jump or `eret` in a delay slot (R289 (a), R556, U10). Raised by those. Safe (log 20). -/
  | controlTransferInDelaySlot
  /-- `bgezal`, `bltzal` or their likely forms with `rs` = 31, or `jalr` with `rd` = `rs` (R289 (b), U11).
  Raised by those five. Safe (log 21). -/
  | linkRegisterHazard
  /-- An odd register as a double-precision operand (R401, R338, R350, U5, U6). Raised by every double-precision
  instruction, `ldc1` and `sdc1`. Safe (log 22). -/
  | oddDoubleRegister
  /-- `mfc0` or `mtc0` of a coprocessor 0 register other than 8, 12, 13, 14 (R32, U16). Raised by those two.
  Safe (log 23). -/
  | cop0RegisterAbsent (number : Reg)
  /-- `sc` at another address than that of the `ll` that holds the reservation (R73, R356, U17). Raised by `sc`.
  Safe (log 24). -/
  | scAddressMismatch
deriving DecidableEq, Repr

/-- The machine right after reset (R46, R551): the values of R46's table; where it says "unspecified" the value that
logs 5 to 8 name; where it names a parameter, that parameter (logs 2 to 4). -/
def State.reset : State where
  gpr := (Vector.replicate 32 unspecifiedAtReset).set 0 0#32
  pc := defaultParams.resetPc
  npc := defaultParams.resetPc + 4#32
  inDelaySlot := false
  hi := unspecifiedAtReset
  lo := unspecifiedAtReset
  status := 0#32
  cause := 0#32
  epc := unspecifiedAtReset
  badVAddr := unspecifiedAtReset
  fpr := Vector.replicate 32 unspecifiedAtReset
  fcc := Vector.replicate 8 false
  llBit := false
  llAddr := unspecifiedAtReset
  mem := []
  params := defaultParams
  inputs := []
  draws := 0

end Sys2Proof.Machine
end

