-- ==== Sys2Proof/Machine/Flags.lean ====
section
/-!
DEFINITION. Every flag of the machine (spec/10_state.md R41): the status bits of R28, the fields of `Cause` (R30), the
floating-point condition flags (R35), and the signed overflow that the integer instructions signal by an exception
(spec/40_arithmetic_logical.md R150).
-/

namespace Sys2Proof.Machine

/-! ## Status (R28) -/

/-- `Status.IE`, bit 0. -/
def statusIE (status : Word) : Bool := status.getLsbD 0

/-- `Status.EXL`, bit 1. -/
def statusEXL (status : Word) : Bool := status.getLsbD 1

/-- `Status.IM7..IM0`, bits 15:8. -/
def statusIM (status : Word) : Byte := status.extractLsb' 8 8

/-- `Status` with `EXL` = 1 and every other bit kept. -/
def setEXL (status : Word) : Word := status ||| 0x00000002#32

/-- `Status` with `EXL` = 0 and every other bit kept. -/
def clearEXL (status : Word) : Word := status &&& 0xFFFFFFFD#32

/-! ## Cause (R30) -/

/-- The bits of `Cause` that exist: BD, IP7..IP0, ExcCode. The others read as 0. -/
def causeMask : Word := 0x8000FF7C#32

/-- The bits of `Cause` that `mtc0` writes: IP1, IP0, ExcCode (R30, R388). -/
def causeWritable : Word := 0x0000037C#32

/-- `Cause.BD`, bit 31. -/
def causeBD (cause : Word) : Bool := cause.getLsbD 31

/-- `Cause.IP7..IP0`, bits 15:8. -/
def causeIP (cause : Word) : Byte := cause.extractLsb' 8 8

/-- `Cause.ExcCode`, bits 6:2. -/
def causeExcCode (cause : Word) : BitVec 5 := cause.extractLsb' 2 5

/-- `Cause` with `BD` set to `b`. -/
def setBD (b : Bool) (cause : Word) : Word :=
  if b then cause ||| 0x80000000#32 else cause &&& 0x7FFFFFFF#32

/-- `Cause` with `ExcCode` set to `code`. -/
def setExcCode (code : BitVec 5) (cause : Word) : Word :=
  (cause &&& 0xFFFFFF83#32) ||| (code.setWidth 32 <<< 2)

/-- `Cause` with IP7..IP2, bits 15:10, set to the external lines (R511). -/
def setHardwareIP (lines : BitVec 6) (cause : Word) : Word :=
  (cause &&& 0xFFFF03FF#32) ||| (lines.setWidth 32 <<< 10)

/-- `Cause` after a `mtc0` of `v` (R30, R388). -/
def writeCause (old v : Word) : Word :=
  (old &&& ~~~causeWritable) ||| (v &&& causeWritable)

/-- The code trap entry writes to `Cause.ExcCode` (R501). -/
def Exc.code : Exc → BitVec 5
  | .interrupt => 0
  | .addressErrorLoad _ => 4
  | .addressErrorStore _ => 5
  | .busErrorFetch => 6
  | .busErrorData => 7
  | .syscall => 8
  | .breakpoint => 9
  | .reservedInstruction => 10
  | .coprocessorUnusable => 11
  | .overflow => 12
  | .trap => 13

/-- What trap entry leaves in `BadVAddr` (R31, R503, R506). -/
def Exc.badAddress (e : Exc) (old : Word) : Word :=
  match e with
  | .addressErrorLoad a => a
  | .addressErrorStore a => a
  | _ => old

/-! ## Signed overflow (R150) -/

/-- The exact result does not fit a signed 32-bit word. -/
def overflows (t : Int) : Bool :=
  t < -(2 ^ 31) || t > 2 ^ 31 - 1

/-! ## Floating-point condition flags (R35) -/

/-- `fcc[c]`. -/
def State.getFcc (s : State) (c : CondFlag) : Bool := s.fcc[c.toNat]'c.isLt

/-- `fcc[c] <- b`. -/
def State.setFcc (s : State) (c : CondFlag) (b : Bool) : State :=
  { s with fcc := s.fcc.set c.toNat b c.isLt }

end Sys2Proof.Machine
end

