-- ==== Sys2Proof/Machine/Operands.lean ====
section
/-!
DEFINITION. Operands: immediates, shift distances, branch and jump targets, effective addresses, link values, and the
register operands (spec/30_encoding.md R110 to R117; spec/42_branch_jump.md R250, R252; spec/10_state.md R22, R33, R34).
-/

namespace Sys2Proof.Machine

/-- The sign-extended 16-bit immediate (R110). -/
def signImm (imm : Imm16) : Word := imm.signExtend 32

/-- The zero-extended 16-bit immediate (R111). -/
def zeroImm (imm : Imm16) : Word := imm.setWidth 32

/-- The immediate of `lui`, in the upper halfword (R112). -/
def upperImm (imm : Imm16) : Word := imm.setWidth 32 <<< 16

/-- The distance of a variable shift: the low five bits of the register (R115). -/
def shiftDistance (v : Word) : Nat := (v.extractLsb' 0 5).toNat

/-- `x[i]`; register 0 reads as 0 (R20, R22). -/
def State.getGpr (s : State) (i : Reg) : Word :=
  if i = 0#5 then 0#32 else s.gpr[i.toNat]'i.isLt

/-- `x[i] <- v`; a write to register 0 is discarded (R22). -/
def State.setGpr (s : State) (i : Reg) (v : Word) : State :=
  { s with gpr := if i = 0#5 then s.gpr else s.gpr.set i.toNat v i.isLt }

/-- `f[i]` (R33). -/
def State.getFpr (s : State) (i : FReg) : Word := s.fpr[i.toNat]'i.isLt

/-- `f[i] <- v` (R33). -/
def State.setFpr (s : State) (i : FReg) (v : Word) : State :=
  { s with fpr := s.fpr.set i.toNat v i.isLt }

/-- Register `i` can name a double (R34, R401). -/
def evenFpr (i : FReg) : Bool := !i.getLsbD 0

/-- `high || low` (R5). -/
def joinWords (high low : Word) : DWord :=
  (high.setWidth 64 <<< 32) ||| low.setWidth 64

/-- Bits 63:32. -/
def highWord (v : DWord) : Word := v.extractLsb' 32 32

/-- Bits 31:0. -/
def lowWord (v : DWord) : Word := v.extractLsb' 0 32

/-- `fd[i] = f[i+1] || f[i]` for even `i` (R34). -/
def State.getDouble (s : State) (i : FReg) : DWord :=
  joinWords (s.getFpr (i + 1#5)) (s.getFpr i)

/-- `fd[i] <- v` for even `i`: bits 31:0 to `f[i]`, bits 63:32 to `f[i+1]` (R34). -/
def State.setDouble (s : State) (i : FReg) (v : DWord) : State :=
  (s.setFpr i (lowWord v)).setFpr (i + 1#5) (highWord v)

/-- `acc = hi || lo` (R7, R26). -/
def State.acc (s : State) : DWord := joinWords s.hi s.lo

/-- `hi || lo <- v` (R7, R26). -/
def State.setAcc (s : State) (v : DWord) : State :=
  { s with hi := highWord v, lo := lowWord v }

/-- The address of a load or store: `x[rs] + sext_32(Offset)` (R116, R330). -/
def State.effectiveAddress (s : State) (rs : Reg) (off : Imm16) : Word :=
  s.getGpr rs + signImm off

/-- The target of a conditional branch: `pc + 4 + (sext_32(Offset) << 2)` (R113, R250). -/
def State.branchTarget (s : State) (off : Imm16) : Word :=
  s.pc + 4#32 + (signImm off <<< 2)

/-- The target of `j` and `jal`: `(pc + 4)[31:28] || target || 00` (R114). -/
def State.jumpTarget (s : State) (target : Target26) : Word :=
  ((s.pc + 4#32) &&& 0xF0000000#32) ||| (target.setWidth 32 <<< 2)

/-- The link value (R252). -/
def State.linkValue (s : State) : Word :=
  if s.params.delayedBranches then s.pc + 8#32 else s.pc + 4#32

end Sys2Proof.Machine
end

