-- ==== Sys2Proof/Machine/Ops.lean ====
section
/-!
DEFINITION. The operations that the meanings share: memory (spec/20_memory.md), the end of a step (spec/00_scope.md R10
step 5), taking an exception and returning from one (spec/60_exceptions.md R506 to R509), coprocessor 0 registers, the
reservation, free values, and what the outside world does at the start of a step.
-/

namespace Sys2Proof.Machine

/-- What one instruction, or one step, gives. -/
abbrev Result := Host.Outcome State Fault Refusal

/-! ## Bytes of memory (R38, R60) -/

/-- What an address reads as when no entry of memory lists it. R46 says "unspecified".
DESIGN CHOICE, unsafe (log 9). -/
def unlistedByte : Byte := 0#8

/-- The byte at an address. -/
def Memory.read : Memory → Nat → Byte
  | [], _ => unlistedByte
  | (b, v) :: m, a => if a = b then v else Memory.read m a

/-- Memory with the byte `v` at `a`, in the canonical form. -/
def Memory.write : Memory → Nat → Byte → Memory
  | [], a, v => if v = unlistedByte then [] else [(a, v)]
  | (b, w) :: m, a, v =>
    if a < b then (if v = unlistedByte then (b, w) :: m else (a, v) :: (b, w) :: m)
    else if a = b then (if v = unlistedByte then m else (a, v) :: m)
    else (b, w) :: Memory.write m a v

/-- Every address of the list is above `lo`, the addresses rise strictly, all are 32-bit addresses, and no entry
equals what an unlisted address reads as. -/
def Memory.wfAbove : Option Nat → Memory → Bool
  | _, [] => true
  | lo, (a, v) :: m =>
    (match lo with
      | none => true
      | some l => l < a) && a < 2 ^ 32 && v != unlistedByte && Memory.wfAbove (some a) m

/-- The canonical form of memory: equal memories are equal lists. -/
def Memory.wf (m : Memory) : Bool := Memory.wfAbove none m

/-- The byte at a 32-bit address. -/
def State.readByte (s : State) (a : Word) : Byte := Memory.read s.mem a.toNat

/-- The bytes of an `n`-byte access at `a`, lowest address first, addresses modulo 2^32 (R62). -/
def Memory.readBytes (m : Memory) (a : Word) : Nat → List Byte
  | 0 => []
  | n + 1 => Memory.read m a.toNat :: Memory.readBytes m (a + 1#32) n

/-- Memory with the bytes stored at `a` and the addresses after it, modulo 2^32 (R62). -/
def Memory.writeBytes (m : Memory) (a : Word) : List Byte → Memory
  | [] => m
  | b :: bs => Memory.writeBytes (Memory.write m a.toNat b) (a + 1#32) bs

/-! ## The address map (R69; log 27) -/

/-- The region contains the address and allows the access. -/
def regionAllows (k : Config.Access) (a : Nat) (r : Config.Region) : Bool :=
  r.base ≤ a && a < r.base + r.size &&
    match k with
    | .read => r.readable
    | .write => r.writable
    | .execute => r.executable

/-- Some region allows each of the `n` bytes at `a`. -/
def regionsAllow (rs : List Config.Region) (k : Config.Access) (a : Word) : Nat → Bool
  | 0 => true
  | n + 1 => rs.any (regionAllows k a.toNat) && regionsAllow rs k (a + 1#32) n

/-- `MEM_MAP` allows an access of `n` bytes at `a` (R66, R67, R64, R78). -/
def mapAllows (p : Config.Params) (k : Config.Access) (a : Word) (n : Nat) : Bool :=
  match p.memMap with
  | .regions rs => regionsAllow rs k a n
  | .predicate => Config.memMapPredicate k a n

/-! ## The access primitives (R64, R66, R67) -/

/-- The value of the `n` bytes at `a` in the byte order of the run (R62). -/
def State.readValue (s : State) (a : Word) (n : Nat) : Nat :=
  bytesToNat s.params.bigEndian (Memory.readBytes s.mem a n)

/-- The state with the low `8n` bits of `v` in the `n` bytes at `a`, in the byte order of the run (R62). -/
def State.writeValue (s : State) (a : Word) (n v : Nat) : State :=
  { s with mem := Memory.writeBytes s.mem a (natToBytes s.params.bigEndian n v) }

/-- `MemRead(addr, n)` (R66). -/
def State.memRead (s : State) (a : Word) (n : Nat) : Except Exc Nat :=
  if a.toNat % n ≠ 0 then .error (.addressErrorLoad a)
  else if mapAllows s.params .read a n then .ok (s.readValue a n)
  else .error .busErrorData

/-- A store with no alignment check (R78): the map is asked for the bytes stored. -/
def State.memStore (s : State) (a : Word) (n v : Nat) : Except Exc State :=
  if mapAllows s.params .write a n then .ok (s.writeValue a n v) else .error .busErrorData

/-- `MemWrite(addr, n, v)` (R67). -/
def State.memWrite (s : State) (a : Word) (n v : Nat) : Except Exc State :=
  if a.toNat % n ≠ 0 then .error (.addressErrorStore a) else s.memStore a n v

/-- `Fetch(addr)` (R64). -/
def State.fetch (s : State) (a : Word) : Except Exc Word :=
  if a.toNat % 4 ≠ 0 then .error (.addressErrorLoad a)
  else if mapAllows s.params .execute a 4 then .ok (wordOfBytes s.params.bigEndian (Memory.readBytes s.mem a 4))
  else .error .busErrorFetch

/-! ## The end of a step (R10 step 5, R25) -/

/-- Fall through to the next instruction: the last case of R10 step 5. -/
def State.advance (s : State) : State :=
  { s with pc := s.npc, npc := s.npc + 4#32, inDelaySlot := false }

/-- The rule assigned `pc <- target`: the first and the fourth case of R10 step 5. -/
def State.transferTo (s : State) (target : Word) : State :=
  { s with
    pc := if s.params.delayedBranches then s.npc else target
    npc := if s.params.delayedBranches then target else target + 4#32
    inDelaySlot := s.params.delayedBranches }

/-- A branch whose condition was false: the second case of R10 step 5. -/
def State.branchNotTaken (s : State) : State :=
  { s with pc := s.npc, npc := s.npc + 4#32, inDelaySlot := s.params.delayedBranches }

/-- `annul delay slot`: the third case of R10 step 5; without delay slots it has no effect. -/
def State.annulDelaySlot (s : State) : State :=
  { s with
    pc := if s.params.delayedBranches then s.npc + 4#32 else s.npc
    npc := if s.params.delayedBranches then s.npc + 8#32 else s.npc + 4#32
    inDelaySlot := false }

/-- The end of a conditional branch (R250, R251). -/
def State.branchIf (s : State) (taken : Bool) (target : Word) : State :=
  if taken then s.transferTo target else s.branchNotTaken

/-- The end of a branch-likely (R253). -/
def State.branchLikelyIf (s : State) (taken : Bool) (target : Word) : State :=
  if taken then s.transferTo target else s.annulDelaySlot

/-- A branch, jump or `eret` in a delay slot is refused (R289 (a), U10; log 20). -/
def State.unlessInDelaySlot (s : State) (k : Result) : Result :=
  if s.inDelaySlot then .refused .controlTransferInDelaySlot else k

/-- A link instruction whose operand is its link register is refused (R289 (b), U11; log 21). -/
def unlessLinkHazard (hazard : Bool) (k : Result) : Result :=
  if hazard then .refused .linkRegisterHazard else k

/-- A double-precision operand in an odd register is refused (R401, R338, R350, U5, U6; log 22). -/
def whenEven (ok : Bool) (k : Result) : Result :=
  if ok then k else .refused .oddDoubleRegister

/-! ## Exceptions (R506 to R509) -/

/-- Trap entry (R506, R508): `EPC` and `Cause.BD` are written unless `EXL` is already 1; `pc` is the address of the
instruction that raised the exception, or, for an interrupt, of the one about to be fetched. -/
def State.takeException (s : State) (e : Exc) : State :=
  { s with
    epc := if statusEXL s.status then s.epc else if s.inDelaySlot then s.pc - 4#32 else s.pc
    cause := setExcCode e.code (if statusEXL s.status then s.cause else setBD s.inDelaySlot s.cause)
    badVAddr := e.badAddress s.badVAddr
    status := setEXL s.status
    pc := s.params.excVector
    npc := s.params.excVector + 4#32
    inDelaySlot := false }

/-- `raise E`: the instruction ends with trap entry in place of everything it would have written (R9, R500). -/
def State.raise (s : State) (e : Exc) : Result := .next (s.takeException e)

/-- The return from an exception (R480, R509): `EXL` and `LLbit` are cleared and control goes to `EPC` at once. -/
def State.returnFromException (s : State) : State :=
  { s with
    status := clearEXL s.status
    llBit := false
    pc := s.epc
    npc := s.epc + 4#32
    inDelaySlot := false }

/-- Go on with the value of an access, or raise its exception. -/
def State.afterRead (s : State) (r : Except Exc Nat) (k : Nat → Result) : Result :=
  match r with
  | .ok v => k v
  | .error e => s.raise e

/-- Go on from the state after a store, or raise its exception in the state before it. -/
def State.afterWrite (s : State) (r : Except Exc State) (k : State → Result) : Result :=
  match r with
  | .ok t => k t
  | .error e => s.raise e

/-! ## How most instructions end -/

/-- Write a general register and go on. -/
def State.putGpr (s : State) (i : Reg) (v : Word) : Result := .next (s.setGpr i v).advance

/-- Write a general register with the exact result `t`, or raise `Overflow` and write nothing (R150). -/
def State.putChecked (s : State) (i : Reg) (t : Int) : Result :=
  if overflows t then s.raise .overflow else s.putGpr i (BitVec.ofInt 32 t)

/-- Write `hi || lo` and go on. -/
def State.putAcc (s : State) (v : DWord) : Result := .next (s.setAcc v).advance

/-- Raise `Trap` if the condition holds, else go on (R310). -/
def State.trapIf (s : State) (condition : Bool) : Result :=
  if condition then s.raise .trap else .next s.advance

/-- A load into a general register (R330, R66): `extend` makes the register's value of the bytes'. -/
def State.loadGpr (s : State) (i : Reg) (a : Word) (n : Nat) (extend : Nat → Word) : Result :=
  s.afterRead (s.memRead a n) fun v => s.putGpr i (extend v)

/-- A store of the low `8n` bits of `v` (R330, R67). -/
def State.storeValue (s : State) (a : Word) (n v : Nat) : Result :=
  s.afterWrite (s.memWrite a n v) fun t => .next t.advance

/-! ## Coprocessor 0 registers (R27 to R32, R385, R388) -/

/-- `c0[n]`, for the four registers the spec models. -/
def State.readCop0 (s : State) (n : Reg) : Option Word :=
  match n.toNat with
  | 8 => some s.badVAddr
  | 12 => some s.status
  | 13 => some (s.cause &&& causeMask)
  | 14 => some s.epc
  | _ => none

/-- `c0[n] <- v`, subject to the access rules of each register. -/
def State.writeCop0 (s : State) (n : Reg) (v : Word) : Option State :=
  match n.toNat with
  | 8 => some s
  | 12 => some { s with status := v }
  | 13 => some { s with cause := writeCause s.cause v }
  | 14 => some { s with epc := v }
  | _ => none

/-! ## The reservation (R37, R73) -/

/-- The address lies in the block of `LL_BLOCK_BYTES` bytes that contains `LLaddr` (R73). -/
def sameBlock (p : Config.Params) (a b : Word) : Bool :=
  a.toNat / p.llBlockBytes == b.toNat / p.llBlockBytes

/-- `ll` sets the reservation (R73, R345). -/
def State.setReservation (s : State) (a : Word) : State :=
  { s with llBit := true, llAddr := a }

/-- `LLbit <- 0` (R73, R356). -/
def State.clearReservation (s : State) : State :=
  { s with llBit := false }

/-! ## Free values (log 11) -/

/-- The free value of this draw. -/
def State.freeDouble (s : State) : DWord := Config.freeBits s.draws

/-- The state after `n` free values were drawn. -/
def State.drawn (s : State) (n : Nat) : State := { s with draws := s.draws + n }

/-! ## The host (R481; log 18) -/

/-- The state after the writes of a host service, in the order general registers, floating-point registers, memory.
DESIGN CHOICE (log 18): the spec does not say whether the host, an agent (R13), is bound by `MEM_MAP` or breaks the
reservation as a member of `OTHER_AGENTS` does (R73); here its writes to memory pass `MEM_MAP` by and leave `LLbit` as
it was. -/
def State.applyHostEffect (s : State) (e : Config.HostEffect) : State :=
  let s1 := e.gprWrites.foldl (fun t w => t.setGpr w.1 w.2) s
  let s2 := e.fprWrites.foldl (fun t w => t.setFpr w.1 w.2) s1
  e.memWrites.foldl (fun t w => { t with mem := Memory.write t.mem w.1.toNat w.2 }) s2

/-! ## The start of a step: the outside world (R10 step 1, R510 to R513, R73) -/

/-- What the outside world does at this step; after the end of `inputs`, all lines low and no other agent, the
defaults of R4 (logs 25, 26). -/
def State.currentEvent (s : State) : Event :=
  match s.inputs with
  | [] => { lines := 0#6, writes := [] }
  | e :: _ => e

/-- Another agent writes one byte; a write to the block of the reservation clears `LLbit` (R73). -/
def State.otherAgentWrites (s : State) (w : Word × Byte) : State :=
  { s with
    mem := Memory.write s.mem w.1.toNat w.2
    llBit := s.llBit && !sameBlock s.params w.1 s.llAddr }

/-- The state at the start of a step, after the outside world: other agents' writes are done (R71, R73) and
`Cause[15:10]` shows the lines (R511). -/
def State.sampleInputs (s : State) : State :=
  let t := s.currentEvent.writes.foldl State.otherAgentWrites s
  { t with cause := setHardwareIP s.currentEvent.lines t.cause, inputs := s.inputs.tail }

/-- An interrupt is pending and enabled (R512). -/
def State.interruptPending (s : State) : Bool :=
  statusIE s.status && !statusEXL s.status && (causeIP s.cause &&& statusIM s.status) != 0#8

end Sys2Proof.Machine
end

