-- ==== Sys2Proof/Machine/Arithmetic.lean ====
section
/-!
DEFINITION. The arithmetic and logical instructions (spec/40_arithmetic_logical.md R150 to R192, R194).
-/

namespace Sys2Proof.Machine

/-! ## Addition and subtraction -/

/-- R152. -/
def execAdd (rd rs rt : Reg) (s : State) : Result :=
  s.putChecked rd ((s.getGpr rs).toInt + (s.getGpr rt).toInt)

/-- R153. -/
def execAddu (rd rs rt : Reg) (s : State) : Result :=
  s.putGpr rd (s.getGpr rs + s.getGpr rt)

/-- R154. -/
def execAddi (rt rs : Reg) (imm : Imm16) (s : State) : Result :=
  s.putChecked rt ((s.getGpr rs).toInt + (signImm imm).toInt)

/-- R155. -/
def execAddiu (rt rs : Reg) (imm : Imm16) (s : State) : Result :=
  s.putGpr rt (s.getGpr rs + signImm imm)

/-- R189. -/
def execSub (rd rs rt : Reg) (s : State) : Result :=
  s.putChecked rd ((s.getGpr rs).toInt - (s.getGpr rt).toInt)

/-- R190. -/
def execSubu (rd rs rt : Reg) (s : State) : Result :=
  s.putGpr rd (s.getGpr rs - s.getGpr rt)

/-! ## Logic -/

/-- R156. -/
def execAnd (rd rs rt : Reg) (s : State) : Result :=
  s.putGpr rd (s.getGpr rs &&& s.getGpr rt)

/-- R157. -/
def execAndi (rt rs : Reg) (imm : Imm16) (s : State) : Result :=
  s.putGpr rt (s.getGpr rs &&& zeroImm imm)

/-- R175. -/
def execNor (rd rs rt : Reg) (s : State) : Result :=
  s.putGpr rd (~~~(s.getGpr rs ||| s.getGpr rt))

/-- R177. -/
def execOr (rd rs rt : Reg) (s : State) : Result :=
  s.putGpr rd (s.getGpr rs ||| s.getGpr rt)

/-- R178. -/
def execOri (rt rs : Reg) (imm : Imm16) (s : State) : Result :=
  s.putGpr rt (s.getGpr rs ||| zeroImm imm)

/-- R191. -/
def execXor (rd rs rt : Reg) (s : State) : Result :=
  s.putGpr rd (s.getGpr rs ^^^ s.getGpr rt)

/-- R192. -/
def execXori (rt rs : Reg) (imm : Imm16) (s : State) : Result :=
  s.putGpr rt (s.getGpr rs ^^^ zeroImm imm)

/-! ## Counting leading bits -/

/-- How many of the low `n` bits of `v`, from bit `n - 1` down, equal `b` before the first that does not (R158, R159). -/
def leadingRun (v : Word) (b : Bool) : Nat → Nat
  | 0 => 0
  | n + 1 => if v.getLsbD n = b then leadingRun v b n + 1 else 0

/-- R158. -/
def execClo (rd rs : Reg) (s : State) : Result :=
  s.putGpr rd (BitVec.ofNat 32 (leadingRun (s.getGpr rs) true 32))

/-- R159. -/
def execClz (rd rs : Reg) (s : State) : Result :=
  s.putGpr rd (BitVec.ofNat 32 (leadingRun (s.getGpr rs) false 32))

/-! ## Multiplication -/

/-- The signed product modulo 2^64 (R164). -/
def signedProduct (a b : Word) : DWord := BitVec.ofInt 64 (a.toInt * b.toInt)

/-- The unsigned product (R165). -/
def unsignedProduct (a b : Word) : DWord := BitVec.ofNat 64 (a.toNat * b.toNat)

/-- R164. -/
def execMult (rs rt : Reg) (s : State) : Result :=
  s.putAcc (signedProduct (s.getGpr rs) (s.getGpr rt))

/-- R165. -/
def execMultu (rs rt : Reg) (s : State) : Result :=
  s.putAcc (unsignedProduct (s.getGpr rs) (s.getGpr rt))

/-- R166: `hi` and `lo` afterwards are free values (U9; log 17). -/
def execMul (rd rs rt : Reg) (s : State) : Result :=
  .next (((s.setGpr rd (s.getGpr rs * s.getGpr rt)).setAcc s.freeDouble).drawn 1).advance

/-- R169. -/
def execMadd (rs rt : Reg) (s : State) : Result :=
  s.putAcc (s.acc + signedProduct (s.getGpr rs) (s.getGpr rt))

/-- R170. -/
def execMaddu (rs rt : Reg) (s : State) : Result :=
  s.putAcc (s.acc + unsignedProduct (s.getGpr rs) (s.getGpr rt))

/-- R171. -/
def execMsub (rs rt : Reg) (s : State) : Result :=
  s.putAcc (s.acc - signedProduct (s.getGpr rs) (s.getGpr rt))

/-- R172. -/
def execMsubu (rs rt : Reg) (s : State) : Result :=
  s.putAcc (s.acc - unsignedProduct (s.getGpr rs) (s.getGpr rt))

/-! ## Division (R194) -/

/-- Of the two pairs that meet R194's two properties, the one whose remainder is not negative, or the one whose remainder
is not positive; they are one pair when the division is exact. -/
def quotientPair (notNegative : Bool) (n d : Int) : Int × Int :=
  if notNegative || n.emod d == 0 then (n.ediv d, n.emod d) else (n.ediv d + d.sign, n.emod d - d.natAbs)

/-- The quotient and the remainder of `n` by `d` when one of them is negative (R194; log 13). -/
def signedQuotient (c : Config.SignedDiv) (n d : Int) (draw : Nat) : Int × Int :=
  match c with
  | .truncating => (n.tdiv d, n.tmod d)
  | .flooring => (n.fdiv d, n.fmod d)
  | .function => quotientPair (Config.signedDivChoice n d) n d
  | .anyConvention => quotientPair (Config.signedDivPick n d draw) n d

/-- `lo` and `hi` after a division whose quotient the spec leaves without a value (U7, U8; log 12). -/
def State.freeQuotient (s : State) (n : Word) : Word × Word := Config.divByZero n s.draws

/-- Leave the quotient in `lo` and the remainder in `hi`, and go on. -/
def State.putQuotient (s : State) (lo hi : Word) : Result :=
  .next { s with lo := lo, hi := hi }.advance

/-- R160, R194. -/
def execDiv (rs rt : Reg) (s : State) : Result :=
  let n := (s.getGpr rs).toInt
  let d := (s.getGpr rt).toInt
  if d = 0 || (n == -(2 ^ 31) && d == -1) then
    (s.drawn 1).putQuotient (s.freeQuotient (s.getGpr rs)).1 (s.freeQuotient (s.getGpr rs)).2
  else if 0 ≤ n && 0 ≤ d then s.putQuotient (BitVec.ofInt 32 (n.tdiv d)) (BitVec.ofInt 32 (n.tmod d))
  else
    let qr := signedQuotient s.params.signedDiv n d s.draws
    (s.drawn (if s.params.signedDiv = .anyConvention then 1 else 0)).putQuotient
      (BitVec.ofInt 32 qr.1) (BitVec.ofInt 32 qr.2)

/-- R161, R194. -/
def execDivu (rs rt : Reg) (s : State) : Result :=
  let n := (s.getGpr rs).toNat
  let d := (s.getGpr rt).toNat
  if d = 0 then (s.drawn 1).putQuotient (s.freeQuotient (s.getGpr rs)).1 (s.freeQuotient (s.getGpr rs)).2
  else s.putQuotient (BitVec.ofNat 32 (n / d)) (BitVec.ofNat 32 (n % d))

/-! ## Shifts -/

/-- R181. -/
def execSll (rd rt : Reg) (shamt : Shamt) (s : State) : Result :=
  s.putGpr rd (s.getGpr rt <<< shamt.toNat)

/-- R182. -/
def execSllv (rd rt rs : Reg) (s : State) : Result :=
  s.putGpr rd (s.getGpr rt <<< shiftDistance (s.getGpr rs))

/-- R183. -/
def execSra (rd rt : Reg) (shamt : Shamt) (s : State) : Result :=
  s.putGpr rd ((s.getGpr rt).sshiftRight shamt.toNat)

/-- R184. -/
def execSrav (rd rt rs : Reg) (s : State) : Result :=
  s.putGpr rd ((s.getGpr rt).sshiftRight (shiftDistance (s.getGpr rs)))

/-- R185. -/
def execSrl (rd rt : Reg) (shamt : Shamt) (s : State) : Result :=
  s.putGpr rd (s.getGpr rt >>> shamt.toNat)

/-- R186. -/
def execSrlv (rd rt rs : Reg) (s : State) : Result :=
  s.putGpr rd (s.getGpr rt >>> shiftDistance (s.getGpr rs))

end Sys2Proof.Machine
end

