-- ==== Sys2Proof/Machine/BranchJump.lean ====
section
/-!
DEFINITION. The branches, the branch-likely instructions and the jumps (spec/42_branch_jump.md R250 to R264, R275 to R289).
-/

namespace Sys2Proof.Machine

/-- The register that `bgezal`, `bltzal`, their likely forms and `jal` write (R259, R286). -/
def linkRegister : Reg := 31#5

/-! ## Branches -/

/-- R255. -/
def execBc1f (cc : CondFlag) (off : Imm16) (s : State) : Result :=
  s.unlessInDelaySlot <| .next (s.branchIf (!s.getFcc cc) (s.branchTarget off))

/-- R256. -/
def execBc1t (cc : CondFlag) (off : Imm16) (s : State) : Result :=
  s.unlessInDelaySlot <| .next (s.branchIf (s.getFcc cc) (s.branchTarget off))

/-- R257. -/
def execBeq (rs rt : Reg) (off : Imm16) (s : State) : Result :=
  s.unlessInDelaySlot <| .next (s.branchIf (s.getGpr rs == s.getGpr rt) (s.branchTarget off))

/-- R258. -/
def execBgez (rs : Reg) (off : Imm16) (s : State) : Result :=
  s.unlessInDelaySlot <| .next (s.branchIf (decide (0 ≤ (s.getGpr rs).toInt)) (s.branchTarget off))

/-- R259. -/
def execBgezal (rs : Reg) (off : Imm16) (s : State) : Result :=
  s.unlessInDelaySlot <| unlessLinkHazard (rs == linkRegister) <|
    .next ((s.setGpr linkRegister s.linkValue).branchIf (decide (0 ≤ (s.getGpr rs).toInt)) (s.branchTarget off))

/-- R260. -/
def execBgtz (rs : Reg) (off : Imm16) (s : State) : Result :=
  s.unlessInDelaySlot <| .next (s.branchIf (decide (0 < (s.getGpr rs).toInt)) (s.branchTarget off))

/-- R261. -/
def execBlez (rs : Reg) (off : Imm16) (s : State) : Result :=
  s.unlessInDelaySlot <| .next (s.branchIf (decide ((s.getGpr rs).toInt ≤ 0)) (s.branchTarget off))

/-- R262. -/
def execBltzal (rs : Reg) (off : Imm16) (s : State) : Result :=
  s.unlessInDelaySlot <| unlessLinkHazard (rs == linkRegister) <|
    .next ((s.setGpr linkRegister s.linkValue).branchIf (decide ((s.getGpr rs).toInt < 0)) (s.branchTarget off))

/-- R263. -/
def execBltz (rs : Reg) (off : Imm16) (s : State) : Result :=
  s.unlessInDelaySlot <| .next (s.branchIf (decide ((s.getGpr rs).toInt < 0)) (s.branchTarget off))

/-- R264. -/
def execBne (rs rt : Reg) (off : Imm16) (s : State) : Result :=
  s.unlessInDelaySlot <| .next (s.branchIf (s.getGpr rs != s.getGpr rt) (s.branchTarget off))

/-! ## Branch-likely instructions (R253) -/

/-- R275. -/
def execBc1fl (cc : CondFlag) (off : Imm16) (s : State) : Result :=
  s.unlessInDelaySlot <| .next (s.branchLikelyIf (!s.getFcc cc) (s.branchTarget off))

/-- R276. -/
def execBc1tl (cc : CondFlag) (off : Imm16) (s : State) : Result :=
  s.unlessInDelaySlot <| .next (s.branchLikelyIf (s.getFcc cc) (s.branchTarget off))

/-- R277. -/
def execBeql (rs rt : Reg) (off : Imm16) (s : State) : Result :=
  s.unlessInDelaySlot <| .next (s.branchLikelyIf (s.getGpr rs == s.getGpr rt) (s.branchTarget off))

/-- R278. -/
def execBgezl (rs : Reg) (off : Imm16) (s : State) : Result :=
  s.unlessInDelaySlot <| .next (s.branchLikelyIf (decide (0 ≤ (s.getGpr rs).toInt)) (s.branchTarget off))

/-- R279. -/
def execBgezall (rs : Reg) (off : Imm16) (s : State) : Result :=
  s.unlessInDelaySlot <| unlessLinkHazard (rs == linkRegister) <|
    .next ((s.setGpr linkRegister s.linkValue).branchLikelyIf (decide (0 ≤ (s.getGpr rs).toInt)) (s.branchTarget off))

/-- R280. -/
def execBgtzl (rs : Reg) (off : Imm16) (s : State) : Result :=
  s.unlessInDelaySlot <| .next (s.branchLikelyIf (decide (0 < (s.getGpr rs).toInt)) (s.branchTarget off))

/-- R281. -/
def execBlezl (rs : Reg) (off : Imm16) (s : State) : Result :=
  s.unlessInDelaySlot <| .next (s.branchLikelyIf (decide ((s.getGpr rs).toInt ≤ 0)) (s.branchTarget off))

/-- R282. -/
def execBltzall (rs : Reg) (off : Imm16) (s : State) : Result :=
  s.unlessInDelaySlot <| unlessLinkHazard (rs == linkRegister) <|
    .next ((s.setGpr linkRegister s.linkValue).branchLikelyIf (decide ((s.getGpr rs).toInt < 0)) (s.branchTarget off))

/-- R283. -/
def execBltzl (rs : Reg) (off : Imm16) (s : State) : Result :=
  s.unlessInDelaySlot <| .next (s.branchLikelyIf (decide ((s.getGpr rs).toInt < 0)) (s.branchTarget off))

/-- R284. -/
def execBnel (rs rt : Reg) (off : Imm16) (s : State) : Result :=
  s.unlessInDelaySlot <| .next (s.branchLikelyIf (s.getGpr rs != s.getGpr rt) (s.branchTarget off))

/-! ## Jumps -/

/-- R285. -/
def execJ (target : Target26) (s : State) : Result :=
  s.unlessInDelaySlot <| .next (s.transferTo (s.jumpTarget target))

/-- R286. -/
def execJal (target : Target26) (s : State) : Result :=
  s.unlessInDelaySlot <| .next ((s.setGpr linkRegister s.linkValue).transferTo (s.jumpTarget target))

/-- R287. -/
def execJalr (rs rd : Reg) (s : State) : Result :=
  s.unlessInDelaySlot <| unlessLinkHazard (rd == rs) <|
    .next ((s.setGpr rd s.linkValue).transferTo (s.getGpr rs))

/-- R288. -/
def execJr (rs : Reg) (s : State) : Result :=
  s.unlessInDelaySlot <| .next (s.transferTo (s.getGpr rs))

end Sys2Proof.Machine
end

