-- ==== Sys2Proof/Machine/Comparison.lean ====
section
/-!
DEFINITION. The constant-manipulating and comparison instructions (spec/41_constant_comparison.md R220 to R225).
-/

namespace Sys2Proof.Machine

/-- The value of a comparison: 1 or 0. -/
def truthValue (b : Bool) : Word := if b then 1#32 else 0#32

/-- R220. -/
def execLui (rt : Reg) (imm : Imm16) (s : State) : Result :=
  s.putGpr rt (upperImm imm)

/-- R222. -/
def execSlt (rd rs rt : Reg) (s : State) : Result :=
  s.putGpr rd (truthValue (decide ((s.getGpr rs).toInt < (s.getGpr rt).toInt)))

/-- R223. -/
def execSltu (rd rs rt : Reg) (s : State) : Result :=
  s.putGpr rd (truthValue (decide ((s.getGpr rs).toNat < (s.getGpr rt).toNat)))

/-- R224. -/
def execSlti (rt rs : Reg) (imm : Imm16) (s : State) : Result :=
  s.putGpr rt (truthValue (decide ((s.getGpr rs).toInt < (signImm imm).toInt)))

/-- R225. -/
def execSltiu (rt rs : Reg) (imm : Imm16) (s : State) : Result :=
  s.putGpr rt (truthValue (decide ((s.getGpr rs).toNat < (signImm imm).toNat)))

end Sys2Proof.Machine
end

