-- ==== Sys2Proof/Machine/DataMovement.lean ====
section
/-!
DEFINITION. The data movement instructions (spec/45_data_movement.md R381 to R393).
-/

namespace Sys2Proof.Machine

/-- R381. -/
def execMfhi (rd : Reg) (s : State) : Result := s.putGpr rd s.hi

/-- R382. -/
def execMflo (rd : Reg) (s : State) : Result := s.putGpr rd s.lo

/-- R383. -/
def execMthi (rs : Reg) (s : State) : Result := .next { s with hi := s.getGpr rs }.advance

/-- R384. -/
def execMtlo (rs : Reg) (s : State) : Result := .next { s with lo := s.getGpr rs }.advance

/-- R385; a register the spec does not model is refused (R32, U16; log 23). -/
def execMfc0 (rt rd : Reg) (s : State) : Result :=
  match s.readCop0 rd with
  | some v => s.putGpr rt v
  | none => .refused (.cop0RegisterAbsent rd)

/-- R386. -/
def execMfc1 (rt : Reg) (fs : FReg) (s : State) : Result := s.putGpr rt (s.getFpr fs)

/-- R388; a register the spec does not model is refused (R32, U16; log 23). -/
def execMtc0 (rt rd : Reg) (s : State) : Result :=
  match s.writeCop0 rd (s.getGpr rt) with
  | some t => .next t.advance
  | none => .refused (.cop0RegisterAbsent rd)

/-- R389. -/
def execMtc1 (rt : Reg) (fs : FReg) (s : State) : Result := .next (s.setFpr fs (s.getGpr rt)).advance

/-- Write a general register if the condition holds, else leave it, and go on. -/
def State.moveGprIf (s : State) (condition : Bool) (rd : Reg) (v : Word) : Result :=
  if condition then s.putGpr rd v else .next s.advance

/-- R390. -/
def execMovn (rd rs rt : Reg) (s : State) : Result :=
  s.moveGprIf (s.getGpr rt != 0#32) rd (s.getGpr rs)

/-- R391. -/
def execMovz (rd rs rt : Reg) (s : State) : Result :=
  s.moveGprIf (s.getGpr rt == 0#32) rd (s.getGpr rs)

/-- R392. -/
def execMovf (rd rs : Reg) (cc : CondFlag) (s : State) : Result :=
  s.moveGprIf (!s.getFcc cc) rd (s.getGpr rs)

/-- R393. -/
def execMovt (rd rs : Reg) (cc : CondFlag) (s : State) : Result :=
  s.moveGprIf (s.getFcc cc) rd (s.getGpr rs)

end Sys2Proof.Machine
end

