-- ==== Sys2Proof/Machine/ExceptionInstr.lean ====
section
/-!
DEFINITION. The exception and interrupt instructions (spec/47_exception_instructions.md R480 to R483).
-/

namespace Sys2Proof.Machine

/-- R480; refused in a delay slot (R289 (a)). -/
def execEret (s : State) : Result :=
  s.unlessInDelaySlot <| .next s.returnFromException

/-- The service that `SYSCALL_MODE` = `host` runs (R481; log 18). -/
def State.hostService (s : State) : Config.HostEffect :=
  Config.hostSyscall (s.getGpr 2#5) s.gpr s.fpr s.mem s.draws

/-- R481. -/
def execSyscall (s : State) : Result :=
  match s.params.syscallMode with
  | .trap => s.raise .syscall
  | .host =>
    if s.hostService.endsRun then .fault .hostEndedRun
    else .next ((s.applyHostEffect s.hostService).drawn 1).advance

/-- R482: code 1 ends the run (U2; log 19). -/
def execBrk (code : Code20) (s : State) : Result :=
  if code = 1#20 then .fault .debuggerBreak else s.raise .breakpoint

/-- R483. -/
def execNop (s : State) : Result := .next s.advance

end Sys2Proof.Machine
end

