-- ==== Sys2Proof/Machine/Ieee.lean ====
section
/-!
DEFINITION. The numerics of the floating-point unit: the parameter `FP_NUMERICS` at its default, IEEE 754 binary32 and
binary64, round to nearest, ties to even (spec/46_floating_point.md R400, R402, R404, R405; log 14). Values are exact
integers scaled by a power of two; rounding happens once, in `roundTo`.
-/

namespace Sys2Proof.Machine

/-- A binary interchange format (R400): the widths of the exponent and the fraction. -/
structure FpFormat where
  expBits : Nat
  fracBits : Nat
deriving DecidableEq, Repr

/-- Single precision: binary32 (R400). -/
def singleFormat : FpFormat := { expBits := 8, fracBits := 23 }

/-- Double precision: binary64 (R400). -/
def doubleFormat : FpFormat := { expBits := 11, fracBits := 52 }

/-- What the bits of a floating-point operand say (R400). A finite value is `±mant * 2^exp`. -/
inductive FpValue where
  | nan
  | infinite (negative : Bool)
  | finite (negative : Bool) (mant : Nat) (exp : Int)
deriving DecidableEq, Repr

/-- What an operation delivers: the bits of a number or infinity, or a NaN whose sign and fraction the spec leaves
unspecified (R402, U13). -/
inductive FpResult where
  | nan
  | bits (n : Nat)
deriving DecidableEq, Repr

/-- The exponent bias (R400: 127 and 1023). -/
def FpFormat.bias (f : FpFormat) : Nat := 2 ^ (f.expBits - 1) - 1

/-- The exponent of the unit in the last place of the denormals, the least the format has. -/
def FpFormat.minExp (f : FpFormat) : Int := 1 - (f.bias : Int) - (f.fracBits : Int)

/-- The magnitude bits of infinity: exponent all ones, fraction 0 (R400). -/
def FpFormat.infinity (f : FpFormat) : Nat := (2 ^ f.expBits - 1) * 2 ^ f.fracBits

/-- The sign bit over the magnitude bits (R400). -/
def FpFormat.withSign (f : FpFormat) (negative : Bool) (magnitude : Nat) : Nat :=
  (if negative then 2 ^ (f.expBits + f.fracBits) else 0) + magnitude

/-- The sign bit. -/
def FpFormat.isNegative (f : FpFormat) (bits : Nat) : Bool := bits / 2 ^ (f.expBits + f.fracBits) % 2 == 1

/-- Read the bits of an operand (R400). -/
def FpFormat.unpack (f : FpFormat) (bits : Nat) : FpValue :=
  let negative := f.isNegative bits
  let field := bits / 2 ^ f.fracBits % 2 ^ f.expBits
  let frac := bits % 2 ^ f.fracBits
  if field = 2 ^ f.expBits - 1 then (if frac = 0 then .infinite negative else .nan)
  else if field = 0 then .finite negative frac f.minExp
  else .finite negative (2 ^ f.fracBits + frac) (f.minExp + field - 1)

/-- `m / 2^k` rounded to the nearest integer, ties to even. -/
def roundShift (m k : Nat) : Nat :=
  let q := m / 2 ^ k
  let r := m % 2 ^ k
  if 2 * r > 2 ^ k || (2 * r == 2 ^ k && q % 2 == 1) then q + 1 else q

/-- The exact value `±m * 2^e` rounded to the format (R402): nearest, ties to even; overflow gives infinity; below the
normal range a denormal or zero. -/
def FpFormat.roundTo (f : FpFormat) (negative : Bool) (m : Nat) (e : Int) : Nat :=
  if m = 0 then f.withSign negative 0
  else
    let unit := max ((Nat.log2 m : Int) + e - f.fracBits) f.minExp
    let mant := if unit ≤ e then m * 2 ^ (e - unit).toNat else roundShift m (unit - e).toNat
    f.withSign negative (min ((unit - f.minExp).toNat * 2 ^ f.fracBits + mant) f.infinity)

/-- `±m` as an integer. -/
def signedInt (negative : Bool) (m : Nat) : Int := if negative then -(m : Int) else m

/-- The sum of two values (R402): `x - x` is `+0`, and the sum of two negative zeros is `-0`. -/
def FpFormat.add (f : FpFormat) : FpValue → FpValue → FpResult
  | .nan, _ => .nan
  | _, .nan => .nan
  | .infinite a, .infinite b => if a = b then .bits (f.withSign a f.infinity) else .nan
  | .infinite a, .finite _ _ _ => .bits (f.withSign a f.infinity)
  | .finite _ _ _, .infinite b => .bits (f.withSign b f.infinity)
  | .finite a m d, .finite b n e =>
    let low := min d e
    let sum := signedInt a (m * 2 ^ (d - low).toNat) + signedInt b (n * 2 ^ (e - low).toNat)
    .bits (f.roundTo (if sum = 0 then a && b else decide (sum < 0)) sum.natAbs low)

/-- The value with its sign inverted. -/
def FpValue.negated : FpValue → FpValue
  | .nan => .nan
  | .infinite a => .infinite (!a)
  | .finite a m e => .finite (!a) m e

/-- The difference of two values (R402). -/
def FpFormat.sub (f : FpFormat) (x y : FpValue) : FpResult := f.add x y.negated

/-- The product of two values (R402): the sign is the XOR of the signs; `0 * infinity` is a NaN. -/
def FpFormat.mul (f : FpFormat) : FpValue → FpValue → FpResult
  | .nan, _ => .nan
  | _, .nan => .nan
  | .infinite a, .infinite b => .bits (f.withSign (a != b) f.infinity)
  | .infinite a, .finite b n _ => if n = 0 then .nan else .bits (f.withSign (a != b) f.infinity)
  | .finite a m _, .infinite b => if m = 0 then .nan else .bits (f.withSign (a != b) f.infinity)
  | .finite a m d, .finite b n e => .bits (f.roundTo (a != b) (m * n) (d + e))

/-- An integer that rounds as the exact value `q + δ` with `0 ≤ δ < 1` does once `q` has two bits more than the
format: `2q`, plus 1 when `δ` is not 0. -/
def jam (q : Nat) (exact : Bool) : Nat := if exact then 2 * q else 2 * q + 1

/-- The quotient of two values (R402): `0 / 0` and `infinity / infinity` are NaNs, `x / 0` is infinity. -/
def FpFormat.div (f : FpFormat) : FpValue → FpValue → FpResult
  | .nan, _ => .nan
  | _, .nan => .nan
  | .infinite _, .infinite _ => .nan
  | .infinite a, .finite b _ _ => .bits (f.withSign (a != b) f.infinity)
  | .finite a _ _, .infinite b => .bits (f.withSign (a != b) 0)
  | .finite a m d, .finite b n e =>
    if n = 0 then (if m = 0 then .nan else .bits (f.withSign (a != b) f.infinity))
    else
      let k := 2 * f.fracBits + 4
      .bits (f.roundTo (a != b) (jam (m * 2 ^ k / n) (m * 2 ^ k % n == 0)) (d - e - k - 1))

/-- The integer square root, one bit of the root at a time: `root` holds the bits above bit `i`. -/
def squareRootBits (n : Nat) : Nat → Nat → Nat
  | 0, root => root
  | i + 1, root =>
    squareRootBits n i (if (root + 2 ^ i) * (root + 2 ^ i) ≤ n then root + 2 ^ i else root)

/-- The integer square root, rounded down. -/
def squareRoot (n : Nat) : Nat := squareRootBits n (Nat.log2 n / 2 + 1) 0

/-- The square root of a value (R402): that of `-0` is `-0`, that of any other negative number a NaN. -/
def FpFormat.sqrt (f : FpFormat) : FpValue → FpResult
  | .nan => .nan
  | .infinite a => if a then .nan else .bits f.infinity
  | .finite a m e =>
    if m = 0 then .bits (f.withSign a 0)
    else if a then .nan
    else
      let k := 2 * f.fracBits + 6 + (e % 2).toNat
      let n := m * 2 ^ k
      let root := squareRoot n
      .bits (f.roundTo false (jam root (root * root == n)) ((e - k) / 2 - 1))

/-- The two-operand arithmetic of R402. -/
def FpFormat.arith (f : FpFormat) (op : Config.FpArith) (x y : FpValue) : FpResult :=
  match op with
  | .add => f.add x y
  | .sub => f.sub x y
  | .mul => f.mul x y
  | .div => f.div x y

/-- The bits are those of a NaN (R400). -/
def FpFormat.isNan (f : FpFormat) (bits : Nat) : Bool := f.unpack bits == .nan

/-- The bits below the sign bit. -/
def FpFormat.magnitude (f : FpFormat) (bits : Nat) : Nat := bits % 2 ^ (f.expBits + f.fracBits)

/-- The bits with the sign bit cleared; of a NaN a NaN (R410, R411). -/
def FpFormat.abs (f : FpFormat) (bits : Nat) : FpResult :=
  if f.isNan bits then .nan else .bits (f.magnitude bits)

/-- The bits with the sign bit inverted; of a NaN a NaN (R446, R447). -/
def FpFormat.neg (f : FpFormat) (bits : Nat) : FpResult :=
  if f.isNan bits then .nan else .bits (f.withSign (!f.isNegative bits) (f.magnitude bits))

/-- The value in another format (R422, R424). -/
def FpFormat.convert (f : FpFormat) : FpValue → FpResult
  | .nan => .nan
  | .infinite a => .bits (f.withSign a f.infinity)
  | .finite a m e => .bits (f.roundTo a m e)

/-- An integer in the format (R423, R425). -/
def FpFormat.ofInt (f : FpFormat) (i : Int) : Nat := f.roundTo (decide (i < 0)) i.natAbs 0

/-! ## Compares (R405) -/

/-- How two values compare as numbers; `none` when an operand is a NaN. -/
def FpValue.order : FpValue → FpValue → Option Ordering
  | .nan, _ => none
  | _, .nan => none
  | .infinite a, .infinite b => some (if a = b then .eq else if a then .lt else .gt)
  | .infinite a, .finite _ _ _ => some (if a then .lt else .gt)
  | .finite _ _ _, .infinite b => some (if b then .gt else .lt)
  | .finite a m d, .finite b n e =>
    let low := min d e
    some (compare (signedInt a (m * 2 ^ (d - low).toNat)) (signedInt b (n * 2 ^ (e - low).toNat)))

/-- `x = y` (R405). -/
def FpValue.isEq (x y : FpValue) : Bool := x.order y == some .eq

/-- `x < y` (R405). -/
def FpValue.isLt (x y : FpValue) : Bool := x.order y == some .lt

/-- `x ≤ y` (R405). -/
def FpValue.isLe (x y : FpValue) : Bool := x.isLt y || x.isEq y

/-! ## Conversion to a word (R404) -/

/-- The directions of R404. -/
inductive Rounding where
  | towardPositive
  | towardNegative
  | towardZero
  | nearestEven
deriving DecidableEq, Repr

/-- The direction of a conversion to a word; `cvt.w` rounds as `round.w` (R404). -/
def rounding (c : Config.WordConversion) : Rounding :=
  match c with
  | .ceil => .towardPositive
  | .floor => .towardNegative
  | .trunc => .towardZero
  | .round => .nearestEven
  | .cvt => .nearestEven

/-- `±m * 2^e` rounded to an integer in the direction given. -/
def roundToInt (mode : Rounding) (negative : Bool) (m : Nat) (e : Int) : Int :=
  if 0 ≤ e then signedInt negative (m * 2 ^ e.toNat)
  else
    let k := (-e).toNat
    let down := m / 2 ^ k
    let up := if m % 2 ^ k = 0 then down else down + 1
    signedInt negative
      (match mode with
        | .towardZero => down
        | .towardPositive => if negative then down else up
        | .towardNegative => if negative then up else down
        | .nearestEven => roundShift m k)

/-- The word of R404, or `none` where the spec leaves the value unspecified: a NaN, an infinity, an integer outside
-2^31 to 2^31 - 1 (U14). -/
def FpValue.toWord (mode : Rounding) : FpValue → Option Word
  | .nan => none
  | .infinite _ => none
  | .finite a m e =>
    let n := roundToInt mode a m e
    if n < -(2 ^ 31) || n > 2 ^ 31 - 1 then none else some (BitVec.ofInt 32 n)

/-! ## The bits of the operands -/

/-- The value of a single. -/
def singleValue (w : Word) : FpValue := singleFormat.unpack w.toNat

/-- The value of a double. -/
def doubleValue (v : DWord) : FpValue := doubleFormat.unpack v.toNat

/-- A NaN in the single format whose sign and fraction are taken from free bits: every NaN of the format is one of
these (U13; log 15). -/
def freeSingleNan (free : DWord) : Word :=
  let frac := free.toNat % 2 ^ 23
  BitVec.ofNat 32 (singleFormat.withSign (free.getLsbD 63) (singleFormat.infinity + if frac = 0 then 1 else frac))

/-- A NaN in the double format whose sign and fraction are taken from free bits (U13; log 15). -/
def freeDoubleNan (free : DWord) : DWord :=
  let frac := free.toNat % 2 ^ 52
  BitVec.ofNat 64 (doubleFormat.withSign (free.getLsbD 63) (doubleFormat.infinity + if frac = 0 then 1 else frac))

end Sys2Proof.Machine
end

