-- ==== Sys2Proof/Machine/FloatingPoint.lean ====
section
/-!
DEFINITION. The floating-point instructions (spec/46_floating_point.md R400 to R457) over the numerics of Ieee.lean or
those of another record (R4).
-/

namespace Sys2Proof.Machine

/-! ## Results -/

/-- Write a single result and go on; a NaN result is a free NaN (R402, U13; log 15). -/
def State.putSingle (s : State) (fd : FReg) (r : FpResult) : Result :=
  match r with
  | .bits n => .next (s.setFpr fd (BitVec.ofNat 32 n)).advance
  | .nan => .next ((s.setFpr fd (freeSingleNan s.freeDouble)).drawn 1).advance

/-- Write a double result and go on; a NaN result is a free NaN (R402, U13; log 15). -/
def State.putDouble (s : State) (fd : FReg) (r : FpResult) : Result :=
  match r with
  | .bits n => .next (s.setDouble fd (BitVec.ofNat 64 n)).advance
  | .nan => .next ((s.setDouble fd (freeDoubleNan s.freeDouble)).drawn 1).advance

/-- Write the result of a conversion to a word and go on; where R404 leaves the value unspecified it is a free value
(U14; log 16). -/
def State.putWord (s : State) (fd : FReg) (r : Option Word) : Result :=
  match r with
  | some w => .next (s.setFpr fd w).advance
  | none => .next ((s.setFpr fd (lowWord s.freeDouble)).drawn 1).advance

/-- Write a condition flag and go on (R405). -/
def State.putFcc (s : State) (cc : CondFlag) (b : Bool) : Result := .next (s.setFcc cc b).advance

/-- Copy a single if the condition holds, and go on. -/
def State.moveSingleIf (s : State) (condition : Bool) (fd fs : FReg) : Result :=
  if condition then .next (s.setFpr fd (s.getFpr fs)).advance else .next s.advance

/-- Copy a double if the condition holds, and go on. -/
def State.moveDoubleIf (s : State) (condition : Bool) (fd fs : FReg) : Result :=
  if condition then .next (s.setDouble fd (s.getDouble fs)).advance else .next s.advance

/-- The value of a single operand. -/
def State.single (s : State) (i : FReg) : FpValue := singleValue (s.getFpr i)

/-- The value of a double operand. -/
def State.double (s : State) (i : FReg) : FpValue := doubleValue (s.getDouble i)

/-! ## Numerics: the parameter `FP_NUMERICS` (R4, R402; log 14) -/

/-- Deliver a single: the result of IEEE 754, or the function of the other record. -/
def State.deliverSingle (s : State) (fd : FReg) (ieee : FpResult) (other : Config.NumericsRecord → Word) : Result :=
  match s.params.fpNumerics with
  | .ieee => s.putSingle fd ieee
  | .other => .next (s.setFpr fd (other Config.otherNumerics)).advance

/-- Deliver a double: the result of IEEE 754, or the function of the other record. -/
def State.deliverDouble (s : State) (fd : FReg) (ieee : FpResult) (other : Config.NumericsRecord → DWord) : Result :=
  match s.params.fpNumerics with
  | .ieee => s.putDouble fd ieee
  | .other => .next (s.setDouble fd (other Config.otherNumerics)).advance

/-- Deliver a conversion to a word: that of R404, or the function of the other record. -/
def State.deliverWord (s : State) (fd : FReg) (ieee : Option Word) (other : Config.NumericsRecord → Word) : Result :=
  match s.params.fpNumerics with
  | .ieee => s.putWord fd ieee
  | .other => .next (s.setFpr fd (other Config.otherNumerics)).advance

/-- Single arithmetic (R402). -/
def State.arithSingle (s : State) (op : Config.FpArith) (fd fs ft : FReg) : Result :=
  s.deliverSingle fd (singleFormat.arith op (s.single fs) (s.single ft)) fun r =>
    r.arithSingle op (s.getFpr fs) (s.getFpr ft)

/-- Double arithmetic (R402), on even registers. -/
def State.arithDouble (s : State) (op : Config.FpArith) (fd fs ft : FReg) : Result :=
  whenEven (evenFpr fd && evenFpr fs && evenFpr ft) <|
    s.deliverDouble fd (doubleFormat.arith op (s.double fs) (s.double ft)) fun r =>
      r.arithDouble op (s.getDouble fs) (s.getDouble ft)

/-- A conversion of a single to a word (R404). -/
def State.singleToWord (s : State) (c : Config.WordConversion) (fd fs : FReg) : Result :=
  s.deliverWord fd ((s.single fs).toWord (rounding c)) fun r => r.singleToWord c (s.getFpr fs)

/-- A conversion of a double, in an even register, to a word (R404). -/
def State.doubleToWord (s : State) (c : Config.WordConversion) (fd fs : FReg) : Result :=
  whenEven (evenFpr fs) <|
    s.deliverWord fd ((s.double fs).toWord (rounding c)) fun r => r.doubleToWord c (s.getDouble fs)

/-! ## Arithmetic (R402) -/

/-- R410. -/
def execAbsD (fd fs : FReg) (s : State) : Result :=
  whenEven (evenFpr fd && evenFpr fs) <| s.putDouble fd (doubleFormat.abs (s.getDouble fs).toNat)

/-- R411. -/
def execAbsS (fd fs : FReg) (s : State) : Result := s.putSingle fd (singleFormat.abs (s.getFpr fs).toNat)

/-- R412. -/
def execAddD (fd fs ft : FReg) (s : State) : Result := s.arithDouble .add fd fs ft

/-- R413. -/
def execAddS (fd fs ft : FReg) (s : State) : Result := s.arithSingle .add fd fs ft

/-- R428. -/
def execDivD (fd fs ft : FReg) (s : State) : Result := s.arithDouble .div fd fs ft

/-- R429. -/
def execDivS (fd fs ft : FReg) (s : State) : Result := s.arithSingle .div fd fs ft

/-- R444. -/
def execMulD (fd fs ft : FReg) (s : State) : Result := s.arithDouble .mul fd fs ft

/-- R445. -/
def execMulS (fd fs ft : FReg) (s : State) : Result := s.arithSingle .mul fd fs ft

/-- R446. -/
def execNegD (fd fs : FReg) (s : State) : Result :=
  whenEven (evenFpr fd && evenFpr fs) <| s.putDouble fd (doubleFormat.neg (s.getDouble fs).toNat)

/-- R447. -/
def execNegS (fd fs : FReg) (s : State) : Result := s.putSingle fd (singleFormat.neg (s.getFpr fs).toNat)

/-- R450. -/
def execSqrtD (fd fs : FReg) (s : State) : Result :=
  whenEven (evenFpr fd && evenFpr fs) <|
    s.deliverDouble fd (doubleFormat.sqrt (s.double fs)) fun r => r.sqrtDouble (s.getDouble fs)

/-- R451. -/
def execSqrtS (fd fs : FReg) (s : State) : Result :=
  s.deliverSingle fd (singleFormat.sqrt (s.single fs)) fun r => r.sqrtSingle (s.getFpr fs)

/-- R454. -/
def execSubD (fd fs ft : FReg) (s : State) : Result := s.arithDouble .sub fd fs ft

/-- R455. -/
def execSubS (fd fs ft : FReg) (s : State) : Result := s.arithSingle .sub fd fs ft

/-! ## Compares (R405) -/

/-- R416. -/
def execCEqD (cc : CondFlag) (fs ft : FReg) (s : State) : Result :=
  whenEven (evenFpr fs && evenFpr ft) <| s.putFcc cc ((s.double fs).isEq (s.double ft))

/-- R417. -/
def execCEqS (cc : CondFlag) (fs ft : FReg) (s : State) : Result :=
  s.putFcc cc ((s.single fs).isEq (s.single ft))

/-- R418. -/
def execCLeD (cc : CondFlag) (fs ft : FReg) (s : State) : Result :=
  whenEven (evenFpr fs && evenFpr ft) <| s.putFcc cc ((s.double fs).isLe (s.double ft))

/-- R419. -/
def execCLeS (cc : CondFlag) (fs ft : FReg) (s : State) : Result :=
  s.putFcc cc ((s.single fs).isLe (s.single ft))

/-- R420. -/
def execCLtD (cc : CondFlag) (fs ft : FReg) (s : State) : Result :=
  whenEven (evenFpr fs && evenFpr ft) <| s.putFcc cc ((s.double fs).isLt (s.double ft))

/-- R421. -/
def execCLtS (cc : CondFlag) (fs ft : FReg) (s : State) : Result :=
  s.putFcc cc ((s.single fs).isLt (s.single ft))

/-! ## Conversions between formats (R422 to R425) -/

/-- R422. -/
def execCvtDS (fd fs : FReg) (s : State) : Result :=
  whenEven (evenFpr fd) <|
    s.deliverDouble fd (doubleFormat.convert (s.single fs)) fun r => r.singleToDouble (s.getFpr fs)

/-- R423. -/
def execCvtDW (fd fs : FReg) (s : State) : Result :=
  whenEven (evenFpr fd) <|
    s.deliverDouble fd (.bits (doubleFormat.ofInt (s.getFpr fs).toInt)) fun r => r.wordToDouble (s.getFpr fs)

/-- R424. -/
def execCvtSD (fd fs : FReg) (s : State) : Result :=
  whenEven (evenFpr fs) <|
    s.deliverSingle fd (singleFormat.convert (s.double fs)) fun r => r.doubleToSingle (s.getDouble fs)

/-- R425. -/
def execCvtSW (fd fs : FReg) (s : State) : Result :=
  s.deliverSingle fd (.bits (singleFormat.ofInt (s.getFpr fs).toInt)) fun r => r.wordToSingle (s.getFpr fs)

/-! ## Conversions to a word (R404) -/

/-- R414. -/
def execCeilWD (fd fs : FReg) (s : State) : Result := s.doubleToWord .ceil fd fs

/-- R415. -/
def execCeilWS (fd fs : FReg) (s : State) : Result := s.singleToWord .ceil fd fs

/-- R426. -/
def execCvtWD (fd fs : FReg) (s : State) : Result := s.doubleToWord .cvt fd fs

/-- R427. -/
def execCvtWS (fd fs : FReg) (s : State) : Result := s.singleToWord .cvt fd fs

/-- R430. -/
def execFloorWD (fd fs : FReg) (s : State) : Result := s.doubleToWord .floor fd fs

/-- R431. -/
def execFloorWS (fd fs : FReg) (s : State) : Result := s.singleToWord .floor fd fs

/-- R448. -/
def execRoundWD (fd fs : FReg) (s : State) : Result := s.doubleToWord .round fd fs

/-- R449. -/
def execRoundWS (fd fs : FReg) (s : State) : Result := s.singleToWord .round fd fs

/-- R456. -/
def execTruncWD (fd fs : FReg) (s : State) : Result := s.doubleToWord .trunc fd fs

/-- R457. -/
def execTruncWS (fd fs : FReg) (s : State) : Result := s.singleToWord .trunc fd fs

/-! ## Moves -/

/-- R434. -/
def execMovD (fd fs : FReg) (s : State) : Result :=
  whenEven (evenFpr fd && evenFpr fs) <| .next (s.setDouble fd (s.getDouble fs)).advance

/-- R435. -/
def execMovS (fd fs : FReg) (s : State) : Result :=
  .next (s.setFpr fd (s.getFpr fs)).advance

/-- R436. -/
def execMovfD (fd fs : FReg) (cc : CondFlag) (s : State) : Result :=
  whenEven (evenFpr fd && evenFpr fs) <| s.moveDoubleIf (!s.getFcc cc) fd fs

/-- R437. -/
def execMovfS (fd fs : FReg) (cc : CondFlag) (s : State) : Result :=
  s.moveSingleIf (!s.getFcc cc) fd fs

/-- R438. -/
def execMovtD (fd fs : FReg) (cc : CondFlag) (s : State) : Result :=
  whenEven (evenFpr fd && evenFpr fs) <| s.moveDoubleIf (s.getFcc cc) fd fs

/-- R439. -/
def execMovtS (fd fs : FReg) (cc : CondFlag) (s : State) : Result :=
  s.moveSingleIf (s.getFcc cc) fd fs

/-- R440. -/
def execMovnD (fd fs : FReg) (rt : Reg) (s : State) : Result :=
  whenEven (evenFpr fd && evenFpr fs) <| s.moveDoubleIf (s.getGpr rt != 0#32) fd fs

/-- R441. -/
def execMovnS (fd fs : FReg) (rt : Reg) (s : State) : Result :=
  s.moveSingleIf (s.getGpr rt != 0#32) fd fs

/-- R442. -/
def execMovzD (fd fs : FReg) (rt : Reg) (s : State) : Result :=
  whenEven (evenFpr fd && evenFpr fs) <| s.moveDoubleIf (s.getGpr rt == 0#32) fd fs

/-- R443. -/
def execMovzS (fd fs : FReg) (rt : Reg) (s : State) : Result :=
  s.moveSingleIf (s.getGpr rt == 0#32) fd fs

end Sys2Proof.Machine
end

