-- ==== Sys2Proof/Machine/LoadStore.lean ====
section
/-!
DEFINITION. The load and store instructions (spec/44_load_store.md R330 to R356; spec/20_memory.md R73, R78).
-/

namespace Sys2Proof.Machine

/-! ## Extending what a load reads -/

/-- The low `w` bits of the value, sign-extended (R332, R334). -/
def signExtended (w : Nat) (v : Nat) : Word := (BitVec.ofNat w v).signExtend 32

/-- The low 32 bits of the value, zero-extended from the access (R333, R335, R336). -/
def zeroExtended (v : Nat) : Word := BitVec.ofNat 32 v

/-! ## Loads -/

/-- R332. -/
def execLb (rt : Reg) (off : Imm16) (rs : Reg) (s : State) : Result :=
  s.loadGpr rt (s.effectiveAddress rs off) 1 (signExtended 8)

/-- R333. -/
def execLbu (rt : Reg) (off : Imm16) (rs : Reg) (s : State) : Result :=
  s.loadGpr rt (s.effectiveAddress rs off) 1 zeroExtended

/-- R334. -/
def execLh (rt : Reg) (off : Imm16) (rs : Reg) (s : State) : Result :=
  s.loadGpr rt (s.effectiveAddress rs off) 2 (signExtended 16)

/-- R335. -/
def execLhu (rt : Reg) (off : Imm16) (rs : Reg) (s : State) : Result :=
  s.loadGpr rt (s.effectiveAddress rs off) 2 zeroExtended

/-- R336. -/
def execLw (rt : Reg) (off : Imm16) (rs : Reg) (s : State) : Result :=
  s.loadGpr rt (s.effectiveAddress rs off) 4 zeroExtended

/-- R337. -/
def execLwc1 (ft : FReg) (off : Imm16) (rs : Reg) (s : State) : Result :=
  s.afterRead (s.memRead (s.effectiveAddress rs off) 4) fun v =>
    .next (s.setFpr ft (BitVec.ofNat 32 v)).advance

/-- R338. -/
def execLdc1 (ft : FReg) (off : Imm16) (rs : Reg) (s : State) : Result :=
  whenEven (evenFpr ft) <|
    s.afterRead (s.memRead (s.effectiveAddress rs off) 8) fun v =>
      .next (s.setDouble ft (BitVec.ofNat 64 v)).advance

/-- R345, R73. -/
def execLl (rt : Reg) (off : Imm16) (rs : Reg) (s : State) : Result :=
  s.afterRead (s.memRead (s.effectiveAddress rs off) 4) fun v =>
    .next ((s.setGpr rt (BitVec.ofNat 32 v)).setReservation (s.effectiveAddress rs off)).advance

/-! ## The unaligned pairs (R339, R340, R351, R352) -/

/-- The aligned word that contains the address. -/
def alignedWord (a : Word) : Word := a &&& 0xFFFFFFFC#32

/-- `b = addr[1:0]`. -/
def byteInWord (a : Word) : Nat := a.toNat % 4

/-- `k` of R339 and R351: the bytes of the register that `lwl` keeps and `swl` does not store. -/
def leftSkip (bigEndian : Bool) (a : Word) : Nat := if bigEndian then byteInWord a else 3 - byteInWord a

/-- `j` of R340 and R352: the bytes of the register that `lwr` keeps and `swr` does not store. -/
def rightSkip (bigEndian : Bool) (a : Word) : Nat := if bigEndian then 3 - byteInWord a else byteInWord a

/-- The low `n` bits set. -/
def lowBits (n : Nat) : Word := BitVec.ofNat 32 (2 ^ n - 1)

/-- The register after `lwl` (R339). -/
def mergeLeft (k : Nat) (w old : Word) : Word := (w <<< (8 * k)) ||| (old &&& lowBits (8 * k))

/-- The register after `lwr` (R340). -/
def mergeRight (j : Nat) (w old : Word) : Word := (old &&& ~~~(lowBits (8 * (4 - j)))) ||| (w >>> (8 * j))

/-- R339. -/
def execLwl (rt : Reg) (off : Imm16) (rs : Reg) (s : State) : Result :=
  let a := s.effectiveAddress rs off
  s.afterRead (s.memRead (alignedWord a) 4) fun v =>
    s.putGpr rt (mergeLeft (leftSkip s.params.bigEndian a) (BitVec.ofNat 32 v) (s.getGpr rt))

/-- R340. -/
def execLwr (rt : Reg) (off : Imm16) (rs : Reg) (s : State) : Result :=
  let a := s.effectiveAddress rs off
  s.afterRead (s.memRead (alignedWord a) 4) fun v =>
    s.putGpr rt (mergeRight (rightSkip s.params.bigEndian a) (BitVec.ofNat 32 v) (s.getGpr rt))

/-- The lowest address `swl` stores to (R351). -/
def swlStart (bigEndian : Bool) (a : Word) : Word := if bigEndian then a else alignedWord a

/-- How many bytes `swl` stores (R351). -/
def swlCount (bigEndian : Bool) (a : Word) : Nat := 4 - leftSkip bigEndian a

/-- The lowest address `swr` stores to (R352). -/
def swrStart (bigEndian : Bool) (a : Word) : Word := if bigEndian then alignedWord a else a

/-- How many bytes `swr` stores (R352). -/
def swrCount (bigEndian : Bool) (a : Word) : Nat := 4 - rightSkip bigEndian a

/-- R351: the most significant bytes of the register; no other byte is written. -/
def execSwl (rt : Reg) (off : Imm16) (rs : Reg) (s : State) : Result :=
  let a := s.effectiveAddress rs off
  s.afterWrite
    (s.memStore (swlStart s.params.bigEndian a) (swlCount s.params.bigEndian a)
      (s.getGpr rt >>> (8 * leftSkip s.params.bigEndian a)).toNat) fun t => .next t.advance

/-- R352: the least significant bytes of the register; no other byte is written. -/
def execSwr (rt : Reg) (off : Imm16) (rs : Reg) (s : State) : Result :=
  let a := s.effectiveAddress rs off
  s.afterWrite
    (s.memStore (swrStart s.params.bigEndian a) (swrCount s.params.bigEndian a) (s.getGpr rt).toNat) fun t =>
      .next t.advance

/-! ## Stores -/

/-- R346. -/
def execSb (rt : Reg) (off : Imm16) (rs : Reg) (s : State) : Result :=
  s.storeValue (s.effectiveAddress rs off) 1 (s.getGpr rt).toNat

/-- R347. -/
def execSh (rt : Reg) (off : Imm16) (rs : Reg) (s : State) : Result :=
  s.storeValue (s.effectiveAddress rs off) 2 (s.getGpr rt).toNat

/-- R348. -/
def execSw (rt : Reg) (off : Imm16) (rs : Reg) (s : State) : Result :=
  s.storeValue (s.effectiveAddress rs off) 4 (s.getGpr rt).toNat

/-- R349. -/
def execSwc1 (ft : FReg) (off : Imm16) (rs : Reg) (s : State) : Result :=
  s.storeValue (s.effectiveAddress rs off) 4 (s.getFpr ft).toNat

/-- R350. -/
def execSdc1 (ft : FReg) (off : Imm16) (rs : Reg) (s : State) : Result :=
  whenEven (evenFpr ft) <| s.storeValue (s.effectiveAddress rs off) 8 (s.getDouble ft).toNat

/-- R356, R73. -/
def execSc (rt : Reg) (off : Imm16) (rs : Reg) (s : State) : Result :=
  let a := s.effectiveAddress rs off
  if a.toNat % 4 ≠ 0 then s.raise (.addressErrorStore a)
  else if s.params.scAlwaysSucceeds || s.llBit then
    if !s.params.scAlwaysSucceeds && a != s.llAddr then .refused .scAddressMismatch
    else
      s.afterWrite (s.memWrite a 4 (s.getGpr rt).toNat) fun t =>
        .next ((t.setGpr rt 1#32).clearReservation).advance
  else .next ((s.setGpr rt 0#32).clearReservation).advance

end Sys2Proof.Machine
end

