-- ==== Sys2Proof/Machine/Trap.lean ====
section
/-!
DEFINITION. The trap instructions (spec/43_trap.md R310 to R322).
-/

namespace Sys2Proof.Machine

/-- R311. -/
def execTeq (rs rt : Reg) (s : State) : Result :=
  s.trapIf (s.getGpr rs == s.getGpr rt)

/-- R312. -/
def execTeqi (rs : Reg) (imm : Imm16) (s : State) : Result :=
  s.trapIf (s.getGpr rs == signImm imm)

/-- R313. -/
def execTne (rs rt : Reg) (s : State) : Result :=
  s.trapIf (s.getGpr rs != s.getGpr rt)

/-- R314. -/
def execTnei (rs : Reg) (imm : Imm16) (s : State) : Result :=
  s.trapIf (s.getGpr rs != signImm imm)

/-- R315. -/
def execTge (rs rt : Reg) (s : State) : Result :=
  s.trapIf (decide ((s.getGpr rt).toInt ≤ (s.getGpr rs).toInt))

/-- R317. -/
def execTgei (rs : Reg) (imm : Imm16) (s : State) : Result :=
  s.trapIf (decide ((signImm imm).toInt ≤ (s.getGpr rs).toInt))

/-- R316. -/
def execTgeu (rs rt : Reg) (s : State) : Result :=
  s.trapIf (decide ((s.getGpr rt).toNat ≤ (s.getGpr rs).toNat))

/-- R318. -/
def execTgeiu (rs : Reg) (imm : Imm16) (s : State) : Result :=
  s.trapIf (decide ((signImm imm).toNat ≤ (s.getGpr rs).toNat))

/-- R319. -/
def execTlt (rs rt : Reg) (s : State) : Result :=
  s.trapIf (decide ((s.getGpr rs).toInt < (s.getGpr rt).toInt))

/-- R321. -/
def execTlti (rs : Reg) (imm : Imm16) (s : State) : Result :=
  s.trapIf (decide ((s.getGpr rs).toInt < (signImm imm).toInt))

/-- R320. -/
def execTltu (rs rt : Reg) (s : State) : Result :=
  s.trapIf (decide ((s.getGpr rs).toNat < (s.getGpr rt).toNat))

/-- R322. -/
def execTltiu (rs : Reg) (imm : Imm16) (s : State) : Result :=
  s.trapIf (decide ((s.getGpr rs).toNat < (signImm imm).toNat))

end Sys2Proof.Machine
end

