-- ==== Sys2Proof/Machine/Dispatch.lean ====
section
/-!
DEFINITION. What each instruction does: one arm per constructor of `Instr`, one call of its meaning
(spec/00_scope.md R10 step 4; spec/opcode_table.json).
-/

namespace Sys2Proof.Machine

/-- Execute one decoded instruction (R10 steps 4 and 5). -/
def exec (i : Instr) (s : State) : Host.Outcome State Fault Refusal :=
  match i with
  -- Arithmetic and logical instructions
  | .add rd rs rt => Sys2Proof.Machine.execAdd rd rs rt s
  | .addu rd rs rt => Sys2Proof.Machine.execAddu rd rs rt s
  | .addi rt rs imm => Sys2Proof.Machine.execAddi rt rs imm s
  | .addiu rt rs imm => Sys2Proof.Machine.execAddiu rt rs imm s
  | .and rd rs rt => Sys2Proof.Machine.execAnd rd rs rt s
  | .andi rt rs imm => Sys2Proof.Machine.execAndi rt rs imm s
  | .clo rd rs => Sys2Proof.Machine.execClo rd rs s
  | .clz rd rs => Sys2Proof.Machine.execClz rd rs s
  | .div rs rt => Sys2Proof.Machine.execDiv rs rt s
  | .divu rs rt => Sys2Proof.Machine.execDivu rs rt s
  | .mult rs rt => Sys2Proof.Machine.execMult rs rt s
  | .multu rs rt => Sys2Proof.Machine.execMultu rs rt s
  | .mul rd rs rt => Sys2Proof.Machine.execMul rd rs rt s
  | .madd rs rt => Sys2Proof.Machine.execMadd rs rt s
  | .maddu rs rt => Sys2Proof.Machine.execMaddu rs rt s
  | .msub rs rt => Sys2Proof.Machine.execMsub rs rt s
  | .msubu rs rt => Sys2Proof.Machine.execMsubu rs rt s
  | .nor rd rs rt => Sys2Proof.Machine.execNor rd rs rt s
  | .or rd rs rt => Sys2Proof.Machine.execOr rd rs rt s
  | .ori rt rs imm => Sys2Proof.Machine.execOri rt rs imm s
  | .sll rd rt shamt => Sys2Proof.Machine.execSll rd rt shamt s
  | .sllv rd rt rs => Sys2Proof.Machine.execSllv rd rt rs s
  | .sra rd rt shamt => Sys2Proof.Machine.execSra rd rt shamt s
  | .srav rd rt rs => Sys2Proof.Machine.execSrav rd rt rs s
  | .srl rd rt shamt => Sys2Proof.Machine.execSrl rd rt shamt s
  | .srlv rd rt rs => Sys2Proof.Machine.execSrlv rd rt rs s
  | .sub rd rs rt => Sys2Proof.Machine.execSub rd rs rt s
  | .subu rd rs rt => Sys2Proof.Machine.execSubu rd rs rt s
  | .xor rd rs rt => Sys2Proof.Machine.execXor rd rs rt s
  | .xori rt rs imm => Sys2Proof.Machine.execXori rt rs imm s
  -- Constant-manipulating and comparison instructions
  | .lui rt imm => Sys2Proof.Machine.execLui rt imm s
  | .slt rd rs rt => Sys2Proof.Machine.execSlt rd rs rt s
  | .sltu rd rs rt => Sys2Proof.Machine.execSltu rd rs rt s
  | .slti rt rs imm => Sys2Proof.Machine.execSlti rt rs imm s
  | .sltiu rt rs imm => Sys2Proof.Machine.execSltiu rt rs imm s
  -- Branch and jump instructions
  | .bc1f cc off => Sys2Proof.Machine.execBc1f cc off s
  | .bc1t cc off => Sys2Proof.Machine.execBc1t cc off s
  | .beq rs rt off => Sys2Proof.Machine.execBeq rs rt off s
  | .bgez rs off => Sys2Proof.Machine.execBgez rs off s
  | .bgezal rs off => Sys2Proof.Machine.execBgezal rs off s
  | .bgtz rs off => Sys2Proof.Machine.execBgtz rs off s
  | .blez rs off => Sys2Proof.Machine.execBlez rs off s
  | .bltzal rs off => Sys2Proof.Machine.execBltzal rs off s
  | .bltz rs off => Sys2Proof.Machine.execBltz rs off s
  | .bne rs rt off => Sys2Proof.Machine.execBne rs rt off s
  | .bc1fl cc off => Sys2Proof.Machine.execBc1fl cc off s
  | .bc1tl cc off => Sys2Proof.Machine.execBc1tl cc off s
  | .beql rs rt off => Sys2Proof.Machine.execBeql rs rt off s
  | .bgezl rs off => Sys2Proof.Machine.execBgezl rs off s
  | .bgezall rs off => Sys2Proof.Machine.execBgezall rs off s
  | .bgtzl rs off => Sys2Proof.Machine.execBgtzl rs off s
  | .blezl rs off => Sys2Proof.Machine.execBlezl rs off s
  | .bltzall rs off => Sys2Proof.Machine.execBltzall rs off s
  | .bltzl rs off => Sys2Proof.Machine.execBltzl rs off s
  | .bnel rs rt off => Sys2Proof.Machine.execBnel rs rt off s
  | .j target => Sys2Proof.Machine.execJ target s
  | .jal target => Sys2Proof.Machine.execJal target s
  | .jalr rs rd => Sys2Proof.Machine.execJalr rs rd s
  | .jr rs => Sys2Proof.Machine.execJr rs s
  -- Trap instructions
  | .teq rs rt => Sys2Proof.Machine.execTeq rs rt s
  | .teqi rs imm => Sys2Proof.Machine.execTeqi rs imm s
  | .tne rs rt => Sys2Proof.Machine.execTne rs rt s
  | .tnei rs imm => Sys2Proof.Machine.execTnei rs imm s
  | .tge rs rt => Sys2Proof.Machine.execTge rs rt s
  | .tgeu rs rt => Sys2Proof.Machine.execTgeu rs rt s
  | .tgei rs imm => Sys2Proof.Machine.execTgei rs imm s
  | .tgeiu rs imm => Sys2Proof.Machine.execTgeiu rs imm s
  | .tlt rs rt => Sys2Proof.Machine.execTlt rs rt s
  | .tltu rs rt => Sys2Proof.Machine.execTltu rs rt s
  | .tlti rs imm => Sys2Proof.Machine.execTlti rs imm s
  | .tltiu rs imm => Sys2Proof.Machine.execTltiu rs imm s
  -- Load and store instructions
  | .lb rt off rs => Sys2Proof.Machine.execLb rt off rs s
  | .lbu rt off rs => Sys2Proof.Machine.execLbu rt off rs s
  | .lh rt off rs => Sys2Proof.Machine.execLh rt off rs s
  | .lhu rt off rs => Sys2Proof.Machine.execLhu rt off rs s
  | .lw rt off rs => Sys2Proof.Machine.execLw rt off rs s
  | .lwc1 ft off rs => Sys2Proof.Machine.execLwc1 ft off rs s
  | .ldc1 ft off rs => Sys2Proof.Machine.execLdc1 ft off rs s
  | .lwl rt off rs => Sys2Proof.Machine.execLwl rt off rs s
  | .lwr rt off rs => Sys2Proof.Machine.execLwr rt off rs s
  | .ll rt off rs => Sys2Proof.Machine.execLl rt off rs s
  | .sb rt off rs => Sys2Proof.Machine.execSb rt off rs s
  | .sh rt off rs => Sys2Proof.Machine.execSh rt off rs s
  | .sw rt off rs => Sys2Proof.Machine.execSw rt off rs s
  | .swc1 ft off rs => Sys2Proof.Machine.execSwc1 ft off rs s
  | .sdc1 ft off rs => Sys2Proof.Machine.execSdc1 ft off rs s
  | .swl rt off rs => Sys2Proof.Machine.execSwl rt off rs s
  | .swr rt off rs => Sys2Proof.Machine.execSwr rt off rs s
  | .sc rt off rs => Sys2Proof.Machine.execSc rt off rs s
  -- Data movement instructions
  | .mfhi rd => Sys2Proof.Machine.execMfhi rd s
  | .mflo rd => Sys2Proof.Machine.execMflo rd s
  | .mthi rs => Sys2Proof.Machine.execMthi rs s
  | .mtlo rs => Sys2Proof.Machine.execMtlo rs s
  | .mfc0 rt rd => Sys2Proof.Machine.execMfc0 rt rd s
  | .mfc1 rt fs => Sys2Proof.Machine.execMfc1 rt fs s
  | .mtc0 rt rd => Sys2Proof.Machine.execMtc0 rt rd s
  | .mtc1 rt fs => Sys2Proof.Machine.execMtc1 rt fs s
  | .movn rd rs rt => Sys2Proof.Machine.execMovn rd rs rt s
  | .movz rd rs rt => Sys2Proof.Machine.execMovz rd rs rt s
  | .movf rd rs cc => Sys2Proof.Machine.execMovf rd rs cc s
  | .movt rd rs cc => Sys2Proof.Machine.execMovt rd rs cc s
  -- Floating-point instructions
  | .absD fd fs => Sys2Proof.Machine.execAbsD fd fs s
  | .absS fd fs => Sys2Proof.Machine.execAbsS fd fs s
  | .addD fd fs ft => Sys2Proof.Machine.execAddD fd fs ft s
  | .addS fd fs ft => Sys2Proof.Machine.execAddS fd fs ft s
  | .ceilWD fd fs => Sys2Proof.Machine.execCeilWD fd fs s
  | .ceilWS fd fs => Sys2Proof.Machine.execCeilWS fd fs s
  | .cEqD cc fs ft => Sys2Proof.Machine.execCEqD cc fs ft s
  | .cEqS cc fs ft => Sys2Proof.Machine.execCEqS cc fs ft s
  | .cLeD cc fs ft => Sys2Proof.Machine.execCLeD cc fs ft s
  | .cLeS cc fs ft => Sys2Proof.Machine.execCLeS cc fs ft s
  | .cLtD cc fs ft => Sys2Proof.Machine.execCLtD cc fs ft s
  | .cLtS cc fs ft => Sys2Proof.Machine.execCLtS cc fs ft s
  | .cvtDS fd fs => Sys2Proof.Machine.execCvtDS fd fs s
  | .cvtDW fd fs => Sys2Proof.Machine.execCvtDW fd fs s
  | .cvtSD fd fs => Sys2Proof.Machine.execCvtSD fd fs s
  | .cvtSW fd fs => Sys2Proof.Machine.execCvtSW fd fs s
  | .cvtWD fd fs => Sys2Proof.Machine.execCvtWD fd fs s
  | .cvtWS fd fs => Sys2Proof.Machine.execCvtWS fd fs s
  | .divD fd fs ft => Sys2Proof.Machine.execDivD fd fs ft s
  | .divS fd fs ft => Sys2Proof.Machine.execDivS fd fs ft s
  | .floorWD fd fs => Sys2Proof.Machine.execFloorWD fd fs s
  | .floorWS fd fs => Sys2Proof.Machine.execFloorWS fd fs s
  | .movD fd fs => Sys2Proof.Machine.execMovD fd fs s
  | .movS fd fs => Sys2Proof.Machine.execMovS fd fs s
  | .movfD fd fs cc => Sys2Proof.Machine.execMovfD fd fs cc s
  | .movfS fd fs cc => Sys2Proof.Machine.execMovfS fd fs cc s
  | .movtD fd fs cc => Sys2Proof.Machine.execMovtD fd fs cc s
  | .movtS fd fs cc => Sys2Proof.Machine.execMovtS fd fs cc s
  | .movnD fd fs rt => Sys2Proof.Machine.execMovnD fd fs rt s
  | .movnS fd fs rt => Sys2Proof.Machine.execMovnS fd fs rt s
  | .movzD fd fs rt => Sys2Proof.Machine.execMovzD fd fs rt s
  | .movzS fd fs rt => Sys2Proof.Machine.execMovzS fd fs rt s
  | .mulD fd fs ft => Sys2Proof.Machine.execMulD fd fs ft s
  | .mulS fd fs ft => Sys2Proof.Machine.execMulS fd fs ft s
  | .negD fd fs => Sys2Proof.Machine.execNegD fd fs s
  | .negS fd fs => Sys2Proof.Machine.execNegS fd fs s
  | .roundWD fd fs => Sys2Proof.Machine.execRoundWD fd fs s
  | .roundWS fd fs => Sys2Proof.Machine.execRoundWS fd fs s
  | .sqrtD fd fs => Sys2Proof.Machine.execSqrtD fd fs s
  | .sqrtS fd fs => Sys2Proof.Machine.execSqrtS fd fs s
  | .subD fd fs ft => Sys2Proof.Machine.execSubD fd fs ft s
  | .subS fd fs ft => Sys2Proof.Machine.execSubS fd fs ft s
  | .truncWD fd fs => Sys2Proof.Machine.execTruncWD fd fs s
  | .truncWS fd fs => Sys2Proof.Machine.execTruncWS fd fs s
  -- Exception instructions
  | .eret => Sys2Proof.Machine.execEret s
  | .syscall => Sys2Proof.Machine.execSyscall s
  | .brk code => Sys2Proof.Machine.execBrk code s
  | .nop => Sys2Proof.Machine.execNop s

end Sys2Proof.Machine
end

