-- ==== Sys2Proof/Machine/Fetch.lean ====
section
/-!
DEFINITION. Fetching and running one instruction (spec/00_scope.md R10 steps 1 to 3; spec/20_memory.md R64), and placing
an instruction where the next step fetches (spec/70_reset_and_hazards.md R552; log 10).
-/

namespace Sys2Proof.Machine

/-- Decode a fetched word and execute it; a word with no row raises `ReservedInstruction` (R10 step 3, R130). -/
def State.runWord (s : State) (w : Word) : Result :=
  match decode s.params w with
  | .ok i => exec i s
  | .error _ => s.raise .reservedInstruction

/-- Fetch at `pc` and run, or raise the exception of the fetch (R10 step 2). -/
def State.fetchAndRun (s : State) : Result :=
  match s.fetch s.pc with
  | .ok w => s.runWord w
  | .error e => s.raise e

/-- A pending and enabled interrupt is taken in place of the fetch (R10 step 1, R512). -/
def State.interruptOrRun (s : State) : Result :=
  if s.interruptPending then s.raise .interrupt else s.fetchAndRun

/-- The word stored at `pc` in the byte order of the run. -/
def State.placeWord (s : State) (w : Word) : State := s.writeValue s.pc 4 w.toNat

end Sys2Proof.Machine
end

