-- ==== Sys2Proof/Machine/Step.lean ====
section
/-!
DEFINITION. The step of the machine (spec/00_scope.md R10, R13).
-/

namespace Sys2Proof.Machine

/-- One step: the outside world acts, then an interrupt is taken or one instruction runs (R10). -/
def step (s : State) : Host.Outcome State Fault Refusal := s.sampleInputs.interruptOrRun

/-- The state with an instruction of `nbits` bits stored where the next step fetches (log 10). -/
def State.withFetchWord (s : State) (nbits w : Nat) : State :=
  s.placeWord (BitVec.ofNat 32 (w % 2 ^ nbits))

end Sys2Proof.Machine
end

