-- ==== Sys2Proof/Machine/Pseudo.lean ====
section
/-!
DEFINITION. The 46 pseudoinstructions and the generalised forms as the assembler expands them (spec/00_scope.md R12;
spec/30_encoding.md R135, R136). They are not instructions of the machine: each stands for a list of machine instructions.
Labels are addresses; `none` is a form the assembler refuses (log 35).
-/

namespace Sys2Proof.Machine

/-- `src2`: a register or an immediate (R12). -/
inductive Source where
  | reg (r : Reg)
  | imm (v : Word)
deriving DecidableEq, Repr

/-- The operand `address` (R134, R330): the machine form `off(r)`, a 32-bit value, or a 32-bit value plus a register. -/
inductive Address where
  | based (off : Imm16) (r : Reg)
  | absolute (a : Word)
  | indexed (a : Word) (r : Reg)
deriving DecidableEq, Repr

/-- The three-register mnemonics that may be written with an immediate third operand (R136, R193). -/
inductive ThreeReg where
  | add | addu | sub | subu | and | or | xor | nor | slt | sltu | mul | sllv | srlv | srav | movn | movz
deriving DecidableEq, Repr

/-- A pseudoinstruction, operands in the order of the source's syntax (R135); `generalised` is R136.
DESIGN CHOICE (log 35): `bge`, `bgeu`, `blt` and `bltu`, whose rules name a register `rsrc2` (R266, R267, R272, R273),
take an immediate too, as their four siblings do; `rem` and `remu` take one by R193. -/
inductive Pseudo where
  | abs (rdest rsrc : Reg)
  | div (rdest rsrc1 : Reg) (src2 : Source)
  | divu (rdest rsrc1 : Reg) (src2 : Source)
  | mulo (rdest rsrc1 : Reg) (src2 : Source)
  | mulou (rdest rsrc1 : Reg) (src2 : Source)
  | neg (rdest rsrc : Reg)
  | negu (rdest rsrc : Reg)
  | not (rdest rsrc : Reg)
  | rem (rdest rsrc1 : Reg) (src2 : Source)
  | remu (rdest rsrc1 : Reg) (src2 : Source)
  | rol (rdest rsrc1 : Reg) (src2 : Source)
  | ror (rdest rsrc1 : Reg) (src2 : Source)
  | li (rdest : Reg) (imm : Word)
  | seq (rdest rsrc1 : Reg) (src2 : Source)
  | sge (rdest rsrc1 : Reg) (src2 : Source)
  | sgeu (rdest rsrc1 : Reg) (src2 : Source)
  | sgt (rdest rsrc1 : Reg) (src2 : Source)
  | sgtu (rdest rsrc1 : Reg) (src2 : Source)
  | sle (rdest rsrc1 : Reg) (src2 : Source)
  | sleu (rdest rsrc1 : Reg) (src2 : Source)
  | sne (rdest rsrc1 : Reg) (src2 : Source)
  | b (label : Word)
  | beqz (rsrc : Reg) (label : Word)
  | bnez (rsrc : Reg) (label : Word)
  | bge (rsrc1 : Reg) (src2 : Source) (label : Word)
  | bgeu (rsrc1 : Reg) (src2 : Source) (label : Word)
  | bgt (rsrc1 : Reg) (src2 : Source) (label : Word)
  | bgtu (rsrc1 : Reg) (src2 : Source) (label : Word)
  | ble (rsrc1 : Reg) (src2 : Source) (label : Word)
  | bleu (rsrc1 : Reg) (src2 : Source) (label : Word)
  | blt (rsrc1 : Reg) (src2 : Source) (label : Word)
  | bltu (rsrc1 : Reg) (src2 : Source) (label : Word)
  | la (rdest : Reg) (address : Address)
  | ld (rdest : Reg) (address : Address)
  | ulh (rdest : Reg) (address : Address)
  | ulhu (rdest : Reg) (address : Address)
  | ulw (rdest : Reg) (address : Address)
  | sd (rsrc : Reg) (address : Address)
  | ush (rsrc : Reg) (address : Address)
  | usw (rsrc : Reg) (address : Address)
  | move (rdest rsrc : Reg)
  | mfc1D (rdest : Reg) (frsrc1 : FReg)
  | lD (fdest : FReg) (address : Address)
  | lS (fdest : FReg) (address : Address)
  | sD (fdest : FReg) (address : Address)
  | sS (fdest : FReg) (address : Address)
  | generalised (op : ThreeReg) (rd rs : Reg) (src2 : Source)
deriving DecidableEq, Repr

/-- `$at`, the scratch register of the assembler (R135). -/
def scratch : Reg := 1#5

/-- `$0`. -/
def zeroReg : Reg := 0#5

/-- The upper half of a 32-bit value. -/
def upperHalf (v : Word) : Imm16 := v.extractLsb' 16 16

/-- The lower half of a 32-bit value. -/
def lowerHalf (v : Word) : Imm16 := v.extractLsb' 0 16

/-- The value is the sign extension of its lower half. -/
def fitsSigned (v : Word) : Bool := (lowerHalf v).signExtend 32 == v

/-- The value is the zero extension of its lower half. -/
def fitsUnsigned (v : Word) : Bool := (lowerHalf v).setWidth 32 == v

/-- `li` (R221), the first case that applies. -/
def expandLi (rdest : Reg) (v : Word) : List Instr :=
  if fitsUnsigned v then [.ori rdest zeroReg (lowerHalf v)]
  else if fitsSigned v then [.addiu rdest zeroReg (lowerHalf v)]
  else if lowerHalf v = 0#16 then [.lui rdest (upperHalf v)]
  else [.lui rdest (upperHalf v), .ori rdest rdest (lowerHalf v)]

/-- An immediate source is first loaded into `$at` (R136, R193). -/
def withSource (src : Source) (k : Reg → List Instr) : List Instr :=
  match src with
  | .reg r => k r
  | .imm v => expandLi scratch v ++ k scratch

/-- The delay slot of a branch inside an expansion (R135). -/
def slot (p : Config.Params) : List Instr := if p.delayedBranches then [.nop] else []

/-- The offset of a branch inside an expansion over its slot and `n` more instructions. -/
def skipOver (p : Config.Params) (n : Nat) : Imm16 := BitVec.ofNat 16 ((slot p).length + n)

/-- The offset field of a branch at `pc` to `label`, which must be a multiple of 4 away and in range (R113). -/
def branchOffset (pc label : Word) : Option Imm16 :=
  let d := (label - (pc + 4#32)).toInt
  if d % 4 = 0 ∧ -131072 ≤ d ∧ d ≤ 131068 then some (BitVec.ofInt 16 (d / 4)) else none

/-- Instructions from `pc` on, followed by a branch to `label`. -/
def thenBranch (pc : Word) (before : List Instr) (label : Word) (branch : Imm16 → Instr) : Option (List Instr) :=
  (branchOffset (pc + BitVec.ofNat 32 (4 * before.length)) label).map fun off => before ++ [branch off]

/-- A load or store with the operand `address` (R330). -/
def atAddress (a : Address) (access : Imm16 → Reg → Instr) : List Instr :=
  match a with
  | .based off r => [access off r]
  | .absolute v => [.lui scratch (upperHalf (v + 0x8000#32)), access (lowerHalf v) scratch]
  | .indexed v r =>
    [.lui scratch (upperHalf (v + 0x8000#32)), .addu scratch scratch r, access (lowerHalf v) scratch]

/-- `address + n`; an offset that leaves 16 bits becomes a 32-bit value plus the register (R330). -/
def Address.plus (a : Address) (n : Nat) : Address :=
  match a with
  | .based off r =>
    let v := off.signExtend 32 + BitVec.ofNat 32 n
    if fitsSigned v then .based (lowerHalf v) r else .indexed v r
  | .absolute v => .absolute (v + BitVec.ofNat 32 n)
  | .indexed v r => .indexed (v + BitVec.ofNat 32 n) r

/-- The register is part of the address. -/
def Address.uses (a : Address) (r : Reg) : Bool :=
  match a with
  | .based _ b => b == r
  | .absolute _ => false
  | .indexed _ b => b == r

/-- The address is in machine form. -/
def Address.isBased (a : Address) : Bool :=
  match a with
  | .based _ _ => true
  | .absolute _ => false
  | .indexed _ _ => false

/-- `if divisor = 0 then break 7` (R162, R163, R179). -/
def zeroCheck (p : Config.Params) (divisor : Reg) : List Instr :=
  [.bne divisor zeroReg (skipOver p 1)] ++ slot p ++ [.brk 7#20]

/-- `if rsrc1 = -2^31 then break 6` (R162). -/
def minimumCheck (p : Config.Params) (rsrc1 : Reg) : List Instr :=
  [.bne rsrc1 scratch (skipOver p 1)] ++ slot p ++ [.brk 6#20]

/-- `if divisor = -1 then` the check of the dividend (R162). -/
def overflowCheck (p : Config.Params) (rsrc1 divisor : Reg) : List Instr :=
  [.addiu scratch zeroReg 0xFFFF#16,
    .bne divisor scratch (BitVec.ofNat 16 (1 + (minimumCheck p rsrc1).length)), .lui scratch 0x8000#16]
    ++ minimumCheck p rsrc1

/-- The check of the dividend where the divisor is the immediate `v` (R162). -/
def overflowCheckImm (p : Config.Params) (rsrc1 : Reg) (v : Word) : List Instr :=
  if v = 0xFFFFFFFF#32 then [.lui scratch 0x8000#16] ++ minimumCheck p rsrc1 else []

/-- The three-operand `div` (R162). -/
def expandDiv (p : Config.Params) (rdest rsrc1 : Reg) (src2 : Source) : Option (List Instr) :=
  match src2 with
  | .reg d => some (zeroCheck p d ++ overflowCheck p rsrc1 d ++ [.div rsrc1 d, .mflo rdest])
  | .imm v =>
    if v = 0#32 then none
    else some (overflowCheckImm p rsrc1 v ++ expandLi scratch v ++ [.div rsrc1 scratch, .mflo rdest])

/-- `rem` (R179). DESIGN CHOICE (log 36): R179's expansion has no overflow check, R502 says that `rem` at the overflow case
executes `break 6`; the check of R162 is put in, so that both rules hold wherever R194 gives a remainder. An immediate
goes through `$at` (R193). -/
def expandRem (p : Config.Params) (rdest rsrc1 : Reg) (src2 : Source) : List Instr :=
  match src2 with
  | .reg d => zeroCheck p d ++ overflowCheck p rsrc1 d ++ [.div rsrc1 d, .mfhi rdest]
  | .imm v =>
    overflowCheckImm p rsrc1 v ++ expandLi scratch v ++ zeroCheck p scratch ++ [.div rsrc1 scratch, .mfhi rdest]

/-- `mulou` (R168): `mflo` fills the slot, and stands before the branch where there is none. -/
def expandMulou (p : Config.Params) (rdest rsrc1 r : Reg) : List Instr :=
  [.multu rsrc1 r, .mfhi scratch] ++
    (if p.delayedBranches then [.beq scratch zeroReg 2#16, .mflo rdest]
     else [.mflo rdest, .beq scratch zeroReg 1#16]) ++ [.brk 6#20]

/-- A rotation (R187, R188): `left` or right by the distance. -/
def expandRotate (left : Bool) (rdest rsrc1 : Reg) (src2 : Source) : List Instr :=
  match src2 with
  | .reg n =>
    [.subu scratch zeroReg n,
      if left then .srlv scratch rsrc1 scratch else .sllv scratch rsrc1 scratch,
      if left then .sllv rdest rsrc1 n else .srlv rdest rsrc1 n,
      .or rdest rdest scratch]
  | .imm v =>
    let n : Shamt := v.extractLsb' 0 5
    [if left then .srl scratch rsrc1 (0#5 - n) else .sll scratch rsrc1 (0#5 - n),
      if left then .sll rdest rsrc1 n else .srl rdest rsrc1 n,
      .or rdest rdest scratch]

/-- A set-on-comparison (R226 to R233). `swap` puts the second source first, `negate` inverts the truth value. -/
def expandSet (signed swap negate : Bool) (rdest rsrc1 : Reg) (src2 : Source) : List Instr :=
  withSource src2 fun r =>
    let x := if swap then r else rsrc1
    let y := if swap then rsrc1 else r
    [if signed then .slt rdest x y else .sltu rdest x y] ++ (if negate then [.xori rdest rdest 1#16] else [])

/-- A branch on a comparison (R266 to R273): on `slt`/`sltu` true, or false when `negate`. An immediate goes through `$at`
(DESIGN CHOICE for `bge`, `bgeu`, `blt`, `bltu`: log 35). -/
def expandBranch (pc : Word) (signed swap negate : Bool) (rsrc1 : Reg) (src2 : Source) (label : Word) :
    Option (List Instr) :=
  let before := withSource src2 fun r =>
    let x := if swap then r else rsrc1
    let y := if swap then rsrc1 else r
    [if signed then .slt scratch x y else .sltu scratch x y]
  thenBranch pc before label fun off => if negate then .beq scratch zeroReg off else .bne scratch zeroReg off

/-- The 32-bit value of the address that is added to its register. -/
def Address.value (a : Address) : Word :=
  match a with
  | .based off _ => off.signExtend 32
  | .absolute v => v
  | .indexed v _ => v

/-- The whole address in the register that is part of it, through `$at`. -/
def addressInto (r : Reg) (a : Address) : List Instr := expandLi scratch a.value ++ [.addu r r scratch]

/-- The offset of the least-significant byte of a halfword from its address (R342). -/
def lowByteOffset (p : Config.Params) : Imm16 := if p.bigEndian then 1#16 else 0#16

/-- The offset of the other byte (R342). -/
def highByteOffset (p : Config.Params) : Imm16 := if p.bigEndian then 0#16 else 1#16

/-- `ulh` and `ulhu` (R342, R343). Where the address needs `$at`, the high byte is loaded first, and a destination that is
part of the address first receives the whole of it (log 35). -/
def expandUlh (p : Config.Params) (rdest : Reg) (a : Address) (high : Reg → Imm16 → Reg → Instr) : List Instr :=
  let lowAddr := if p.bigEndian then a.plus 1 else a
  let highAddr := if p.bigEndian then a else a.plus 1
  let lowByte := atAddress lowAddr (Instr.lbu scratch)
  let highByte := atAddress highAddr (high rdest)
  let tail : List Instr := [.sll rdest rdest 8#5, .or rdest rdest scratch]
  if lowAddr.isBased && highAddr.isBased then lowByte ++ highByte ++ tail
  else if a.uses rdest && rdest != zeroReg then
    addressInto rdest a ++ [.lbu scratch (lowByteOffset p) rdest, high rdest (highByteOffset p) rdest] ++ tail
  else highByte ++ lowByte ++ tail

/-- `ulw` and `usw` (R344, R355): the left instruction at one end, the right one at the other. -/
def leftThenRight (p : Config.Params) (a : Address) (left right : Imm16 → Reg → Instr) : List Instr :=
  atAddress (if p.bigEndian then a else a.plus 3) left ++ atAddress (if p.bigEndian then a.plus 3 else a) right

/-- `ulw` (R344): a destination that is part of the address is loaded by way of `$at`, and where the address itself needs
`$at` it first receives the whole of it (log 35). -/
def expandUlw (p : Config.Params) (rdest : Reg) (a : Address) : List Instr :=
  if a.uses rdest && a.isBased && (a.plus 3).isBased then
    leftThenRight p a (Instr.lwl scratch) (Instr.lwr scratch) ++ [.addu rdest zeroReg scratch]
  else if a.uses rdest && rdest != zeroReg then
    addressInto rdest a ++ leftThenRight p (.based 0#16 rdest) (Instr.lwl scratch) (Instr.lwr scratch)
      ++ [.addu rdest zeroReg scratch]
  else leftThenRight p a (Instr.lwl rdest) (Instr.lwr rdest)

/-- A rotation of a register by way of `$at`: right by `n`. -/
def rotateInPlace (r : Reg) (n : Shamt) : List Instr := [.srl scratch r n, .sll r r (0#5 - n), .or r r scratch]

/-- `ush` (R354). Where the address needs `$at`, the register itself is rotated to bring out the high byte, and rotated
back; a register that is part of the address is recovered from the address (log 35). -/
def expandUsh (p : Config.Params) (rsrc : Reg) (a : Address) : List Instr :=
  let lowAddr := if p.bigEndian then a.plus 1 else a
  let highAddr := if p.bigEndian then a else a.plus 1
  if lowAddr.isBased && highAddr.isBased then
    atAddress lowAddr (Instr.sb rsrc) ++ [.srl scratch rsrc 8#5] ++ atAddress highAddr (Instr.sb scratch)
  else if a.uses rsrc && rsrc != zeroReg then
    expandLi scratch a.value
      ++ [.addu scratch scratch rsrc, .sb rsrc (lowByteOffset p) scratch, .srl rsrc rsrc 8#5,
        .sb rsrc (highByteOffset p) scratch]
      ++ expandLi rsrc a.value ++ [.subu rsrc scratch rsrc]
  else
    atAddress lowAddr (Instr.sb rsrc) ++ rotateInPlace rsrc 8#5 ++ atAddress highAddr (Instr.sb rsrc)
      ++ rotateInPlace rsrc 24#5

/-- The register form of a three-register mnemonic (R136). -/
def ThreeReg.instr (op : ThreeReg) (rd rs r : Reg) : Instr :=
  match op with
  | .add => .add rd rs r
  | .addu => .addu rd rs r
  | .sub => .sub rd rs r
  | .subu => .subu rd rs r
  | .and => .and rd rs r
  | .or => .or rd rs r
  | .xor => .xor rd rs r
  | .nor => .nor rd rs r
  | .slt => .slt rd rs r
  | .sltu => .sltu rd rs r
  | .mul => .mul rd rs r
  | .sllv => .sllv rd rs r
  | .srlv => .srlv rd rs r
  | .srav => .srav rd rs r
  | .movn => .movn rd rs r
  | .movz => .movz rd rs r

/-- The immediate instruction of a three-register mnemonic, where one exists and the value fits (R136). -/
def ThreeReg.immediate (op : ThreeReg) (rd rs : Reg) (v : Word) : Option Instr :=
  let signedForm (i : Imm16 → Instr) : Option Instr := if fitsSigned v then some (i (lowerHalf v)) else none
  let negatedForm (i : Imm16 → Instr) : Option Instr := if fitsSigned (-v) then some (i (lowerHalf (-v))) else none
  let unsignedForm (i : Imm16 → Instr) : Option Instr := if fitsUnsigned v then some (i (lowerHalf v)) else none
  match op with
  | .add => signedForm (.addi rd rs)
  | .addu => signedForm (.addiu rd rs)
  | .sub => negatedForm (.addi rd rs)
  | .subu => negatedForm (.addiu rd rs)
  | .and => unsignedForm (.andi rd rs)
  | .or => unsignedForm (.ori rd rs)
  | .xor => unsignedForm (.xori rd rs)
  | .slt => signedForm (.slti rd rs)
  | .sltu => signedForm (.sltiu rd rs)
  | .nor => none
  | .mul => none
  | .sllv => none
  | .srlv => none
  | .srav => none
  | .movn => none
  | .movz => none

/-- The machine instructions a pseudoinstruction at address `pc` stands for (R12); `none` where the assembler refuses. -/
def expand (p : Config.Params) (pc : Word) : Pseudo → Option (List Instr)
  | .abs rdest rsrc =>  -- R151
    some ([.addu rdest zeroReg rsrc, .bgez rsrc (skipOver p 1)] ++ slot p ++ [.sub rdest zeroReg rsrc])
  | .div rdest rsrc1 src2 => expandDiv p rdest rsrc1 src2  -- R162
  | .divu rdest rsrc1 src2 =>  -- R163
    some (withSource src2 fun r => zeroCheck p r ++ [.divu rsrc1 r, .mflo rdest])
  | .mulo rdest rsrc1 src2 =>  -- R167
    some (withSource src2 fun r =>
      [.mult rsrc1 r, .mfhi scratch, .mflo rdest, .sra rdest rdest 31#5, .beq rdest scratch (skipOver p 1)]
        ++ slot p ++ [.brk 6#20, .mflo rdest])
  | .mulou rdest rsrc1 src2 => some (withSource src2 (expandMulou p rdest rsrc1))  -- R168
  | .neg rdest rsrc => some [.sub rdest zeroReg rsrc]  -- R173
  | .negu rdest rsrc => some [.subu rdest zeroReg rsrc]  -- R174
  | .not rdest rsrc => some [.nor rdest rsrc zeroReg]  -- R176
  | .rem rdest rsrc1 src2 => some (expandRem p rdest rsrc1 src2)  -- R179
  | .remu rdest rsrc1 src2 =>  -- R180
    some (withSource src2 fun r => zeroCheck p r ++ [.divu rsrc1 r, .mfhi rdest])
  | .rol rdest rsrc1 src2 => some (expandRotate true rdest rsrc1 src2)  -- R187
  | .ror rdest rsrc1 src2 => some (expandRotate false rdest rsrc1 src2)  -- R188
  | .li rdest imm => some (expandLi rdest imm)  -- R221
  | .seq rdest rsrc1 src2 =>  -- R226
    some (withSource src2 fun r => [.xor rdest rsrc1 r, .sltiu rdest rdest 1#16])
  | .sge rdest rsrc1 src2 => some (expandSet true false true rdest rsrc1 src2)  -- R227
  | .sgeu rdest rsrc1 src2 => some (expandSet false false true rdest rsrc1 src2)  -- R228
  | .sgt rdest rsrc1 src2 => some (expandSet true true false rdest rsrc1 src2)  -- R229
  | .sgtu rdest rsrc1 src2 => some (expandSet false true false rdest rsrc1 src2)  -- R230
  | .sle rdest rsrc1 src2 => some (expandSet true true true rdest rsrc1 src2)  -- R231
  | .sleu rdest rsrc1 src2 => some (expandSet false true true rdest rsrc1 src2)  -- R232
  | .sne rdest rsrc1 src2 =>  -- R233
    some (withSource src2 fun r => [.xor rdest rsrc1 r, .sltu rdest zeroReg rdest])
  | .b label => thenBranch pc [] label (.beq zeroReg zeroReg)  -- R254
  | .beqz rsrc label => thenBranch pc [] label (.beq rsrc zeroReg)  -- R265
  | .bnez rsrc label => thenBranch pc [] label (.bne rsrc zeroReg)  -- R274
  | .bge rsrc1 src2 label => expandBranch pc true false true rsrc1 src2 label  -- R266
  | .bgeu rsrc1 src2 label => expandBranch pc false false true rsrc1 src2 label  -- R267
  | .bgt rsrc1 src2 label => expandBranch pc true true false rsrc1 src2 label  -- R268
  | .bgtu rsrc1 src2 label => expandBranch pc false true false rsrc1 src2 label  -- R269
  | .ble rsrc1 src2 label => expandBranch pc true true true rsrc1 src2 label  -- R270
  | .bleu rsrc1 src2 label => expandBranch pc false true true rsrc1 src2 label  -- R271
  | .blt rsrc1 src2 label => expandBranch pc true false false rsrc1 src2 label  -- R272
  | .bltu rsrc1 src2 label => expandBranch pc false false false rsrc1 src2 label  -- R273
  | .la rdest address =>  -- R331
    match address with
    | .absolute v => some [.lui rdest (upperHalf v), .ori rdest rdest (lowerHalf v)]
    | .based off r => some [.addiu rdest r off]
    | .indexed v r => some [.lui scratch (upperHalf v), .ori scratch scratch (lowerHalf v), .addu rdest scratch r]
  | .ld rdest address =>  -- R341
    let first := atAddress address (Instr.lw rdest)
    let second := atAddress (address.plus 4) (Instr.lw (rdest + 1#5))
    if rdest = 31#5 then none else some (if address.uses rdest then second ++ first else first ++ second)
  | .ulh rdest address => some (expandUlh p rdest address Instr.lb)  -- R342
  | .ulhu rdest address => some (expandUlh p rdest address Instr.lbu)  -- R343
  | .ulw rdest address => some (expandUlw p rdest address)  -- R344
  | .sd rsrc address =>  -- R353
    if rsrc = 31#5 then none
    else some (atAddress address (Instr.sw rsrc) ++ atAddress (address.plus 4) (Instr.sw (rsrc + 1#5)))
  | .ush rsrc address => some (expandUsh p rsrc address)  -- R354
  | .usw rsrc address => some (leftThenRight p address (Instr.swl rsrc) (Instr.swr rsrc))  -- R355
  | .move rdest rsrc => some [.addu rdest zeroReg rsrc]  -- R380
  | .mfc1D rdest frsrc1 =>  -- R387
    if rdest = 31#5 ∨ frsrc1 = 31#5 then none
    else some [.mfc1 rdest frsrc1, .mfc1 (rdest + 1#5) (frsrc1 + 1#5)]
  | .lD fdest address => some (atAddress address (Instr.ldc1 fdest))  -- R432
  | .lS fdest address => some (atAddress address (Instr.lwc1 fdest))  -- R433
  | .sD fdest address => some (atAddress address (Instr.sdc1 fdest))  -- R452
  | .sS fdest address => some (atAddress address (Instr.swc1 fdest))  -- R453
  | .generalised op rd rs src2 =>  -- R136, R193
    match src2 with
    | .reg r => some [op.instr rd rs r]
    | .imm v => some (match op.immediate rd rs v with
      | some i => [i]
      | none => withSource src2 fun r => [op.instr rd rs r])

end Sys2Proof.Machine
end

