-- ==== Sys2Proof/Safety.lean ====
section
/-!
DEFINITION. What statements about the machine speak of: what an instruction leaves unchanged, how control goes on, what
trap entry leaves, and the invariant of the states a run can reach.
-/

namespace Sys2Proof.Machine

/-! ## Frames: parts of the state that are as before -/

/-- Every general register reads as before. -/
def State.sameGprs (s t : State) : Prop := ∀ r : Reg, t.getGpr r = s.getGpr r

/-- General register `rd` reads `v` unless it is register 0; every other reads as before (R22). -/
def State.gprsBut (s t : State) (rd : Reg) (v : Word) : Prop :=
  ∀ r : Reg, t.getGpr r = if r = rd ∧ r ≠ 0#5 then v else s.getGpr r

/-- `hi` and `lo` are as before. -/
def State.sameAcc (s t : State) : Prop := t.hi = s.hi ∧ t.lo = s.lo

/-- Every coprocessor 0 register is as before. -/
def State.sameCop0 (s t : State) : Prop :=
  t.status = s.status ∧ t.cause = s.cause ∧ t.epc = s.epc ∧ t.badVAddr = s.badVAddr

/-- Every floating-point register is as before. -/
def State.sameFprs (s t : State) : Prop := ∀ i : FReg, t.getFpr i = s.getFpr i

/-- Floating-point register `fd` holds `v`; every other is as before. -/
def State.fprsBut (s t : State) (fd : FReg) (v : Word) : Prop :=
  ∀ i : FReg, t.getFpr i = if i = fd then v else s.getFpr i

/-- Floating-point registers `fd` and `fd + 1` hold the low and the high word of `v`; every other is as before (R34). -/
def State.fprPairBut (s t : State) (fd : FReg) (v : DWord) : Prop :=
  ∀ i : FReg, t.getFpr i = if i = fd then lowWord v else if i = fd + 1#5 then highWord v else s.getFpr i

/-- Every condition flag is as before. -/
def State.sameFccs (s t : State) : Prop := ∀ c : CondFlag, t.getFcc c = s.getFcc c

/-- The reservation is as before. -/
def State.sameReservation (s t : State) : Prop := t.llBit = s.llBit ∧ t.llAddr = s.llAddr

/-- Every byte of memory reads as before. -/
def State.sameMemory (s t : State) : Prop := ∀ a : Word, t.readByte a = s.readByte a

/-- The parameters and the coming inputs are as before. -/
def State.sameWorld (s t : State) : Prop := t.params = s.params ∧ t.inputs = s.inputs

/-- Execution goes on at the next instruction (the last case of R10 step 5). -/
def State.goesOn (s t : State) : Prop := t.pc = s.npc ∧ t.npc = s.npc + 4#32 ∧ t.inDelaySlot = false

/-- Everything outside the general registers, control and the count of draws is as before. -/
def State.sameButGprs (s t : State) : Prop :=
  s.sameAcc t ∧ s.sameCop0 t ∧ s.sameFprs t ∧ s.sameFccs t ∧ s.sameReservation t ∧ s.sameMemory t ∧ s.sameWorld t

/-- Everything outside `hi`, `lo`, control and the count of draws is as before. -/
def State.sameButAcc (s t : State) : Prop :=
  s.sameGprs t ∧ s.sameCop0 t ∧ s.sameFprs t ∧ s.sameFccs t ∧ s.sameReservation t ∧ s.sameMemory t ∧ s.sameWorld t

/-- Everything outside the floating-point registers, control and the count of draws is as before. -/
def State.sameButFprs (s t : State) : Prop :=
  s.sameGprs t ∧ s.sameAcc t ∧ s.sameCop0 t ∧ s.sameFccs t ∧ s.sameReservation t ∧ s.sameMemory t ∧ s.sameWorld t

/-- Everything outside memory and control is as before. -/
def State.sameButMemory (s t : State) : Prop :=
  s.sameGprs t ∧ s.sameAcc t ∧ s.sameCop0 t ∧ s.sameFprs t ∧ s.sameFccs t ∧ s.sameReservation t ∧ s.sameWorld t ∧
    t.draws = s.draws

/-- Every register, flag, reservation and byte outside coprocessor 0 and control is as before. -/
def State.sameButCop0 (s t : State) : Prop :=
  s.sameGprs t ∧ s.sameAcc t ∧ s.sameFprs t ∧ s.sameFccs t ∧ s.sameReservation t ∧ s.sameMemory t ∧ s.sameWorld t ∧
    t.draws = s.draws

/-- The instruction wrote `v` to general register `rd`, nothing else, and went on. -/
def State.wroteGpr (s t : State) (rd : Reg) (v : Word) : Prop :=
  s.gprsBut t rd v ∧ s.sameButGprs t ∧ t.draws = s.draws ∧ s.goesOn t

/-- The instruction wrote `hi` and `lo`, nothing else, and went on. -/
def State.wroteAcc (s t : State) (hi lo : Word) : Prop :=
  t.hi = hi ∧ t.lo = lo ∧ s.sameButAcc t ∧ t.draws = s.draws ∧ s.goesOn t

/-- The instruction wrote `v` to floating-point register `fd`, nothing else, and went on. -/
def State.wroteFpr (s t : State) (fd : FReg) (v : Word) : Prop :=
  s.fprsBut t fd v ∧ s.sameButFprs t ∧ t.draws = s.draws ∧ s.goesOn t

/-- The instruction wrote the double `v` to the pair at `fd`, nothing else, and went on. -/
def State.wroteFprPair (s t : State) (fd : FReg) (v : DWord) : Prop :=
  s.fprPairBut t fd v ∧ s.sameButFprs t ∧ t.draws = s.draws ∧ s.goesOn t

/-- The instruction did nothing and went on. -/
def State.onlyWentOn (s t : State) : Prop :=
  s.sameButCop0 t ∧ s.sameCop0 t ∧ s.goesOn t

/-- The instruction left `v` in floating-point register `fd`, nothing else but perhaps a free value drawn, and went on. -/
def State.leftFpr (s t : State) (fd : FReg) (v : Word) : Prop :=
  s.fprsBut t fd v ∧ s.sameButFprs t ∧ s.goesOn t

/-- The instruction left the double `v` in the pair at `fd`, nothing else but perhaps a free value drawn, and went on. -/
def State.leftFprPair (s t : State) (fd : FReg) (v : DWord) : Prop :=
  s.fprPairBut t fd v ∧ s.sameButFprs t ∧ s.goesOn t

/-- Everything but control is as before. -/
def State.sameButControl (s t : State) : Prop := s.sameButCop0 t ∧ s.sameCop0 t

/-! ## Control (R10 step 5, R113, R250 to R253) -/

/-- The address `pc + 4 + 4 * off`, modulo 2^32, with `off` signed (R113). -/
def State.offsetAddress (s : State) (off : Imm16) : Word :=
  BitVec.ofInt 32 ((s.pc.toNat : Int) + 4 + 4 * off.toInt)

/-- Control goes to `target`, after the delay slot if there is one. -/
def State.wentTo (s t : State) (target : Word) : Prop :=
  (s.params.delayedBranches = true → t.pc = s.npc ∧ t.npc = target ∧ t.inDelaySlot = true) ∧
    (s.params.delayedBranches = false → t.pc = target ∧ t.npc = target + 4#32 ∧ t.inDelaySlot = false)

/-- Control goes on; the next instruction is in the delay slot if there is one. -/
def State.ranOn (s t : State) : Prop :=
  t.pc = s.npc ∧ t.npc = s.npc + 4#32 ∧ t.inDelaySlot = s.params.delayedBranches

/-- Control goes on after the delay slot, which is not executed; without delay slots it goes on. -/
def State.skippedSlot (s t : State) : Prop :=
  (s.params.delayedBranches = true → t.pc = s.npc + 4#32 ∧ t.npc = s.npc + 8#32) ∧
    (s.params.delayedBranches = false → t.pc = s.npc ∧ t.npc = s.npc + 4#32) ∧ t.inDelaySlot = false

/-- The instruction transfers control to `pc + 4 + 4 * off` if the condition holds and only runs on if not. -/
def State.branches (s : State) (i : Instr) (condition : Prop) (off : Imm16) : Prop :=
  ∃ t, exec i s = .next t ∧ s.sameButControl t ∧ (condition → s.wentTo t (s.offsetAddress off)) ∧
    (¬condition → s.ranOn t)

/-- As `branches`, but a branch not taken skips its delay slot (R253). -/
def State.branchesLikely (s : State) (i : Instr) (condition : Prop) (off : Imm16) : Prop :=
  ∃ t, exec i s = .next t ∧ s.sameButControl t ∧ (condition → s.wentTo t (s.offsetAddress off)) ∧
    (¬condition → s.skippedSlot t)

/-- The link value of R252. -/
def State.returnAddress (s : State) : Word :=
  BitVec.ofNat 32 (s.pc.toNat + if s.params.delayedBranches then 8 else 4)

/-- Everything outside the general registers and control is as before, and the only register written is `rd`. -/
def State.linked (s t : State) (rd : Reg) : Prop :=
  s.gprsBut t rd s.returnAddress ∧ s.sameButGprs t ∧ t.draws = s.draws

/-! ## Memory (R62, R66, R67) -/

/-- The sum of `f k * 256^k` over `k < n`. -/
def byteSum (n : Nat) (f : Nat → Byte) : Nat :=
  match n with
  | 0 => 0
  | m + 1 => byteSum m f + (f m).toNat * 256 ^ m

/-- The value of the `n` bytes at `a` (R62): the byte of weight `256^k` is byte `k` in the little-endian order and byte
`n - 1 - k` in the big-endian order. -/
def State.assembled (s : State) (a : Word) (n : Nat) : Nat :=
  byteSum n fun k => s.readByte (a + BitVec.ofNat 32 (if s.params.bigEndian then n - 1 - k else k))

/-- The `n` bytes at `a` hold the low `8n` bits of `v`, every other byte is as before (R62, R67). -/
def State.storedAt (s t : State) (a : Word) (n v : Nat) : Prop :=
  (∀ k, k < n →
    t.readByte (a + BitVec.ofNat 32 k) =
      BitVec.ofNat 8 (v / 256 ^ (if s.params.bigEndian then n - 1 - k else k))) ∧
    ∀ b, (∀ k, k < n → b ≠ a + BitVec.ofNat 32 k) → t.readByte b = s.readByte b

/-- The instruction stored the low `8n` bits of `v` at `a`, nothing else, and went on. -/
def State.wroteMemory (s t : State) (a : Word) (n v : Nat) : Prop :=
  s.storedAt t a n v ∧ s.sameButMemory t ∧ s.goesOn t

/-- An access of `n` bytes at `a` exists under the map (R66, R67). -/
def State.allows (s : State) (k : Config.Access) (a : Word) (n : Nat) : Prop := mapAllows s.params k a n = true

/-! ## Trap entry (R506 to R508) -/

/-- What trap entry with code `code` and address of the culprit `bad` leaves (R506, R508). -/
def State.trapEntered (s t : State) (code : BitVec 5) (bad : Option Word) : Prop :=
  s.sameButCop0 t ∧
    t.pc = s.params.excVector ∧ t.npc = s.params.excVector + 4#32 ∧ t.inDelaySlot = false ∧
    statusEXL t.status = true ∧ (∀ k, k ≠ 1 → t.status.getLsbD k = s.status.getLsbD k) ∧
    causeExcCode t.cause = code ∧
    (∀ k, (k < 2 ∨ 7 ≤ k) → k ≠ 31 → t.cause.getLsbD k = s.cause.getLsbD k) ∧
    (statusEXL s.status = true → t.epc = s.epc ∧ causeBD t.cause = causeBD s.cause) ∧
    (statusEXL s.status = false →
      t.epc = (if s.inDelaySlot then s.pc - 4#32 else s.pc) ∧ causeBD t.cause = s.inDelaySlot) ∧
    t.badVAddr = bad.getD s.badVAddr

/-- The instruction takes the exception with code `code`. -/
def State.traps (s : State) (i : Instr) (code : BitVec 5) (bad : Option Word) : Prop :=
  ∃ t, exec i s = .next t ∧ s.trapEntered t code bad

/-- The instruction raises `Trap` if the condition holds, and does nothing if not (R310). -/
def State.trapsIf (s : State) (i : Instr) (condition : Prop) : Prop :=
  (condition → s.traps i 13 none) ∧ (¬condition → ∃ t, exec i s = .next t ∧ s.onlyWentOn t)

/-! ## What an instruction computes -/

/-- The instruction writes to `rd`, and to nothing else, a value with the property, and goes on. -/
def State.computes (s : State) (i : Instr) (rd : Reg) (P : Word → Prop) : Prop :=
  ∃ t v, exec i s = .next t ∧ s.wroteGpr t rd v ∧ P v

/-- The instruction writes the exact result `e` to `rd` if it fits a signed word, and raises `Overflow` if not (R150). -/
def State.computesChecked (s : State) (i : Instr) (rd : Reg) (e : Int) : Prop :=
  (-(2 ^ 31) ≤ e → e < 2 ^ 31 → s.computes i rd fun v => v.toInt = e) ∧
    ((e < -(2 ^ 31) ∨ 2 ^ 31 ≤ e) → s.traps i 12 none)

/-- The instruction writes `hi` and `lo`, nothing else, with the property, and goes on. -/
def State.computesAcc (s : State) (i : Instr) (P : Word → Word → Prop) : Prop :=
  ∃ t hi lo, exec i s = .next t ∧ s.wroteAcc t hi lo ∧ P hi lo

/-- The instruction writes `v` to `rd` if the condition holds, and does nothing if not. -/
def State.movesIf (s : State) (i : Instr) (condition : Prop) (rd : Reg) (v : Word) : Prop :=
  (condition → ∃ t, exec i s = .next t ∧ s.wroteGpr t rd v) ∧
    (¬condition → ∃ t, exec i s = .next t ∧ s.onlyWentOn t)

/-- The instruction leaves in `fd` a single with the property, nothing else, and goes on. -/
def State.computesSingle (s : State) (i : Instr) (fd : FReg) (P : Word → Prop) : Prop :=
  ∃ t w, exec i s = .next t ∧ s.leftFpr t fd w ∧ P w

/-- The instruction leaves in the pair at `fd` a double with the property, nothing else, and goes on. -/
def State.computesDouble (s : State) (i : Instr) (fd : FReg) (P : DWord → Prop) : Prop :=
  ∃ t v, exec i s = .next t ∧ s.leftFprPair t fd v ∧ P v

/-- The instruction leaves in `fd` a single that, as a number, has the property under the IEEE numerics, and that is the
function's value under the other record (R4). -/
def State.numericSingle (s : State) (i : Instr) (fd : FReg) (ieee : Nat → Prop)
    (other : Config.NumericsRecord → Word) : Prop :=
  s.computesSingle i fd fun w =>
    (s.params.fpNumerics = .ieee → ieee w.toNat) ∧ (s.params.fpNumerics = .other → w = other Config.otherNumerics)

/-- As `numericSingle`, for a double. -/
def State.numericDouble (s : State) (i : Instr) (fd : FReg) (ieee : Nat → Prop)
    (other : Config.NumericsRecord → DWord) : Prop :=
  s.computesDouble i fd fun v =>
    (s.params.fpNumerics = .ieee → ieee v.toNat) ∧ (s.params.fpNumerics = .other → v = other Config.otherNumerics)

/-- The instruction writes `w` to `fd` if the condition holds, and does nothing if not. -/
def State.movesSingleIf (s : State) (i : Instr) (condition : Prop) (fd : FReg) (w : Word) : Prop :=
  (condition → ∃ t, exec i s = .next t ∧ s.wroteFpr t fd w) ∧
    (¬condition → ∃ t, exec i s = .next t ∧ s.onlyWentOn t)

/-- The instruction copies the pair at `fs` to the pair at `fd` if the condition holds, and does nothing if not. -/
def State.movesDoubleIf (s : State) (i : Instr) (condition : Prop) (fd fs : FReg) : Prop :=
  (condition → ∃ t v, exec i s = .next t ∧ s.wroteFprPair t fd v ∧ lowWord v = s.getFpr fs ∧
    highWord v = s.getFpr (fs + 1#5)) ∧
    (¬condition → ∃ t, exec i s = .next t ∧ s.onlyWentOn t)

/-- The instruction writes flag `cc`, nothing else, with 1 exactly when the relation holds, and goes on (R405). -/
def State.setsFlag (s : State) (i : Instr) (cc : CondFlag) (relation : Prop) : Prop :=
  ∃ t b, exec i s = .next t ∧ (b = true ↔ relation) ∧ (∀ c, t.getFcc c = if c = cc then b else s.getFcc c) ∧
    s.sameGprs t ∧ s.sameAcc t ∧ s.sameCop0 t ∧ s.sameFprs t ∧ s.sameReservation t ∧ s.sameMemory t ∧ s.sameWorld t ∧
    t.draws = s.draws ∧ s.goesOn t

/-- The address `x[rs] + sext(off)` modulo 2^32 (R330). -/
def State.operandAddress (s : State) (rs : Reg) (off : Imm16) : Word :=
  BitVec.ofInt 32 (((s.getGpr rs).toNat : Int) + off.toInt)

/-- The load writes to `rt` a word related to the value of the `n` bytes at `a`, if the access is allowed (R66). -/
def State.loads (s : State) (i : Instr) (rt : Reg) (a : Word) (n : Nat) (P : Nat → Word → Prop) : Prop :=
  a.toNat % n = 0 → s.allows .read a n → s.computes i rt (P (s.assembled a n))

/-- The store writes the low `8n` bits of `v` to the `n` bytes at `a`, if the access is allowed (R67). -/
def State.stores (s : State) (i : Instr) (a : Word) (n v : Nat) : Prop :=
  a.toNat % n = 0 → s.allows .write a n → ∃ t, exec i s = .next t ∧ s.wroteMemory t a n v

/-- The load of `n` bytes at `a` raises an address error if `a` is no multiple of `n` (R66). -/
def State.misalignedLoad (s : State) (i : Instr) (a : Word) (n : Nat) : Prop :=
  a.toNat % n ≠ 0 → s.traps i 4 (some a)

/-- The store of `n` bytes at `a` raises an address error if `a` is no multiple of `n` (R67). -/
def State.misalignedStore (s : State) (i : Instr) (a : Word) (n : Nat) : Prop :=
  a.toNat % n ≠ 0 → s.traps i 5 (some a)

/-- The aligned access of `n` bytes at `a` raises a bus error if the map does not allow it (R66, R67). -/
def State.busError (s : State) (i : Instr) (k : Config.Access) (a : Word) (n : Nat) : Prop :=
  a.toNat % n = 0 → ¬s.allows k a n → s.traps i 7 none

/-- The address of the aligned word that contains `a`. -/
def wordBase (a : Word) : Word := BitVec.ofNat 32 (a.toNat / 4 * 4)

/-- `k` of R339 and R351. -/
def State.leftKept (s : State) (a : Word) : Nat := if s.params.bigEndian then a.toNat % 4 else 3 - a.toNat % 4

/-- `j` of R340 and R352. -/
def State.rightKept (s : State) (a : Word) : Nat := if s.params.bigEndian then 3 - a.toNat % 4 else a.toNat % 4

/-- The instruction may store to memory: the stores, and `syscall` under `SYSCALL_MODE` = `host`. -/
def mayStore : Instr → Bool
  | .sb _ _ _ | .sh _ _ _ | .sw _ _ _ | .swc1 _ _ _ | .sdc1 _ _ _ | .swl _ _ _ | .swr _ _ _ | .sc _ _ _ | .syscall => true
  | _ => false

/-- The six compare instructions (R35). -/
def isCompare : Instr → Bool
  | .cEqD _ _ _ | .cEqS _ _ _ | .cLeD _ _ _ | .cLeS _ _ _ | .cLtD _ _ _ | .cLtS _ _ _ => true
  | _ => false

/-- The instructions that write `hi` or `lo` (R26). -/
def writesAcc : Instr → Bool
  | .mult _ _ | .multu _ _ | .madd _ _ | .maddu _ _ | .msub _ _ | .msubu _ _ | .div _ _ | .divu _ _ | .mthi _ | .mtlo _
  | .mul _ _ _ => true
  | _ => false

/-- The instructions that write the reservation (R37, R73). -/
def writesReservation : Instr → Bool
  | .ll _ _ _ | .sc _ _ _ | .eret => true
  | _ => false

/-! ## Where the machine stops -/

/-- A branch, a jump or `eret` (R289 (a)). -/
def transfersControl : Instr → Bool
  | .bc1f _ _ | .bc1t _ _ | .beq _ _ _ | .bgez _ _ | .bgezal _ _ | .bgtz _ _ | .blez _ _ | .bltzal _ _ | .bltz _ _
  | .bne _ _ _ | .bc1fl _ _ | .bc1tl _ _ | .beql _ _ _ | .bgezl _ _ | .bgezall _ _ | .bgtzl _ _ | .blezl _ _
  | .bltzall _ _ | .bltzl _ _ | .bnel _ _ _ | .j _ | .jal _ | .jalr _ _ | .jr _ | .eret => true
  | _ => false

/-- A link instruction whose operand is its link register (R289 (b)). -/
def linkHazard : Instr → Bool
  | .bgezal rs _ | .bltzal rs _ | .bgezall rs _ | .bltzall rs _ => rs == 31#5
  | .jalr rs rd => rd == rs
  | _ => false

/-- The double-precision operands of an instruction (R401, R338, R350). -/
def doubleOperands : Instr → List FReg
  | .ldc1 ft _ _ | .sdc1 ft _ _ => [ft]
  | .absD fd fs | .negD fd fs | .sqrtD fd fs | .movD fd fs | .movfD fd fs _ | .movtD fd fs _ | .movnD fd fs _
  | .movzD fd fs _ => [fd, fs]
  | .addD fd fs ft | .subD fd fs ft | .mulD fd fs ft | .divD fd fs ft => [fd, fs, ft]
  | .cEqD _ fs ft | .cLeD _ fs ft | .cLtD _ fs ft => [fs, ft]
  | .cvtDS fd _ | .cvtDW fd _ => [fd]
  | .cvtSD _ fs | .cvtWD _ fs | .ceilWD _ fs | .floorWD _ fs | .roundWD _ fs | .truncWD _ fs => [fs]
  | _ => []

/-- Some double-precision operand has an odd number. -/
def hasOddDouble (i : Instr) : Bool := (doubleOperands i).any fun r => r.getLsbD 0

/-- The coprocessor 0 registers the spec models (R27, R32). -/
def cop0Exists (rd : Reg) : Bool := rd == 8#5 || rd == 12#5 || rd == 13#5 || rd == 14#5

/-- `mfc0` or `mtc0` of another coprocessor 0 register (R32). -/
def namesAbsentCop0 : Instr → Bool
  | .mfc0 _ rd | .mtc0 _ rd => !cop0Exists rd
  | _ => false

/-- `sc` to another address than the reservation's (R73, U17). -/
def State.scMismatch (s : State) : Instr → Prop
  | .sc _ off rs =>
    (s.effectiveAddress rs off).toNat % 4 = 0 ∧ s.params.scAlwaysSucceeds = false ∧ s.llBit = true ∧
      s.effectiveAddress rs off ≠ s.llAddr
  | _ => False

/-- The situations the spec treats as `refuse` or `stuck`, and the end of a run by the host. -/
def State.stopsAt (s : State) (i : Instr) : Prop :=
  (transfersControl i = true ∧ s.inDelaySlot = true) ∨ linkHazard i = true ∨ hasOddDouble i = true ∨
    namesAbsentCop0 i = true ∨ s.scMismatch i ∨ i = .brk 1#20 ∨
    (i = .syscall ∧ s.params.syscallMode = .host ∧ s.hostService.endsRun = true)

/-! ## Rows of the opcode table (R128) -/

/-- The word is one of the row's (R128, R129). -/
def matchesRow (p : Config.Params) (w : Word) (i : Instr) : Prop :=
  w &&& (opcodeRow i).maskFor p = (opcodeRow i).bits

/-! ## Runs of instructions -/

/-- Execute a list of instructions one after the other, without fetching (R12). -/
def execAll : List Instr → State → Result
  | [], s => .next s
  | i :: is, s =>
    match exec i s with
    | .next t => execAll is t
    | .fault r => .fault r
    | .refused r => .refused r

/-! ## Numbers (R400 to R405) -/

/-- The number `±m * 2^e`. -/
def scaled (negative : Bool) (m : Nat) (e : Int) : ℚ := (if negative then -(m : ℚ) else (m : ℚ)) * (2 : ℚ) ^ e

/-- The numbers a compare orders (R405): the rationals between two infinities; a NaN is none of them. -/
def FpValue.extended : FpValue → Option (WithBot (WithTop ℚ))
  | .nan => none
  | .infinite negative => some (if negative then ⊥ else ((⊤ : WithTop ℚ) : WithBot (WithTop ℚ)))
  | .finite negative m e => some (((scaled negative m e : ℚ) : WithTop ℚ) : WithBot (WithTop ℚ))

/-- `x < y` as numbers. -/
def FpValue.less (x y : FpValue) : Prop := ∃ a b, x.extended = some a ∧ y.extended = some b ∧ a < b

/-- `x = y` as numbers. -/
def FpValue.equal (x y : FpValue) : Prop := ∃ a b, x.extended = some a ∧ y.extended = some b ∧ a = b

/-- The magnitude from which IEEE 754 rounds to infinity: half a unit above the greatest finite number. -/
def FpFormat.overflowLimit (f : FpFormat) : ℚ :=
  ((2 : ℚ) ^ (f.fracBits + 2) - 1) * (2 : ℚ) ^ ((f.bias : Int) - f.fracBits - 1)

/-- The finite number of the bits `n` is nearest to `r` among all finite numbers of the format, and of two nearest the
one whose last bit is 0 (R402). -/
def FpFormat.isNearest (f : FpFormat) (r : ℝ) (n : Nat) : Prop :=
  ∃ a m e, f.unpack n = .finite a m e ∧
    ∀ n' a' m' e', f.unpack n' = .finite a' m' e' →
      |r - (scaled a m e : ℝ)| ≤ |r - (scaled a' m' e' : ℝ)| ∧
        (|r - (scaled a m e : ℝ)| = |r - (scaled a' m' e' : ℝ)| → scaled a' m' e' = scaled a m e ∨ n % 2 = 0)

/-- The bits `n` are the exact result `r` rounded to the format (R402): a zero has the sign `zeroSign`, any other result
the sign of `r`; from the limit on, infinity. -/
def FpFormat.roundsTo (f : FpFormat) (r : ℝ) (zeroSign : Bool) (n : Nat) : Prop :=
  (r = 0 → n = f.withSign zeroSign 0) ∧
    (r ≠ 0 →
      (f.isNegative n = true ↔ r < 0) ∧
        (|r| < (f.overflowLimit : ℝ) → f.isNearest r n) ∧ ((f.overflowLimit : ℝ) ≤ |r| → f.magnitude n = f.infinity))

/-- The bits `n` are the sum of two values (R402). -/
def FpFormat.deliversSum (f : FpFormat) (x y : FpValue) (n : Nat) : Prop :=
  match x, y with
  | .nan, _ => f.isNan n = true
  | _, .nan => f.isNan n = true
  | .infinite a, .infinite b => if a = b then n = f.withSign a f.infinity else f.isNan n = true
  | .infinite a, .finite _ _ _ => n = f.withSign a f.infinity
  | .finite _ _ _, .infinite b => n = f.withSign b f.infinity
  | .finite a m d, .finite b k e => f.roundsTo ((scaled a m d + scaled b k e : ℚ) : ℝ) (a && b) n

/-- The bits `n` are the product of two values (R402). -/
def FpFormat.deliversProduct (f : FpFormat) (x y : FpValue) (n : Nat) : Prop :=
  match x, y with
  | .nan, _ => f.isNan n = true
  | _, .nan => f.isNan n = true
  | .infinite a, .infinite b => n = f.withSign (a != b) f.infinity
  | .infinite a, .finite b k _ => if k = 0 then f.isNan n = true else n = f.withSign (a != b) f.infinity
  | .finite a m _, .infinite b => if m = 0 then f.isNan n = true else n = f.withSign (a != b) f.infinity
  | .finite a m d, .finite b k e => f.roundsTo ((scaled a m d * scaled b k e : ℚ) : ℝ) (a != b) n

/-- The bits `n` are the quotient of two values (R402). -/
def FpFormat.deliversQuotient (f : FpFormat) (x y : FpValue) (n : Nat) : Prop :=
  match x, y with
  | .nan, _ => f.isNan n = true
  | _, .nan => f.isNan n = true
  | .infinite _, .infinite _ => f.isNan n = true
  | .infinite a, .finite b _ _ => n = f.withSign (a != b) f.infinity
  | .finite a _ _, .infinite b => n = f.withSign (a != b) 0
  | .finite a m d, .finite b k e =>
    if k = 0 then (if m = 0 then f.isNan n = true else n = f.withSign (a != b) f.infinity)
    else f.roundsTo ((scaled a m d / scaled b k e : ℚ) : ℝ) (a != b) n

/-- The bits `n` are the square root of a value (R402). -/
def FpFormat.deliversRoot (f : FpFormat) (x : FpValue) (n : Nat) : Prop :=
  match x with
  | .nan => f.isNan n = true
  | .infinite a => if a then f.isNan n = true else n = f.infinity
  | .finite a m e =>
    if m = 0 then n = f.withSign a 0
    else if a then f.isNan n = true else f.roundsTo (Real.sqrt (scaled a m e : ℝ)) false n

/-- The bits `n` are a value in another format (R402). -/
def FpFormat.deliversConversion (f : FpFormat) (x : FpValue) (n : Nat) : Prop :=
  match x with
  | .nan => f.isNan n = true
  | .infinite a => n = f.withSign a f.infinity
  | .finite a m e => f.roundsTo (scaled a m e : ℝ) a n

/-- The integer `n` is `q` rounded in the direction given (R404). -/
def roundsToInt (mode : Rounding) (q : ℚ) (n : Int) : Prop :=
  match mode with
  | .towardPositive => n = ⌈q⌉
  | .towardNegative => n = ⌊q⌋
  | .towardZero => n = if 0 ≤ q then ⌊q⌋ else ⌈q⌉
  | .nearestEven => 2 * |q - n| ≤ 1 ∧ (2 * |q - n| = 1 → n % 2 = 0)

/-- The word `w` is the value rounded to an integer, where that integer fits a signed word (R404). -/
def FpValue.convertsTo (mode : Rounding) (x : FpValue) (w : Nat) : Prop :=
  ∀ a m e n, x = .finite a m e → roundsToInt mode (scaled a m e) n → -(2 ^ 31) ≤ n → n < 2 ^ 31 →
    (BitVec.ofNat 32 w).toInt = n

/-! ## The states a run can reach -/

/-- The invariant: memory is in its canonical form; the entry of register 0 is 0 (R22); the bits of `Cause` that do not
exist are 0 (R30); outside a delay slot the next instruction is the following one, and without delayed branches no
instruction is in a delay slot (R25). -/
def State.Inv (s : State) : Prop :=
  Memory.wf s.mem = true ∧ s.gpr[0] = 0#32 ∧ s.cause &&& ~~~causeMask = 0#32 ∧
    (s.inDelaySlot = false → s.npc = s.pc + 4#32) ∧
    (s.params.delayedBranches = false → s.inDelaySlot = false)

end Sys2Proof.Machine
end

