-- ==== Sys2Proof/Certificates/Slice0/Obligations.lean ====
section
/-!
DEFINITION. The statements for the provers. Each says in its docstring what it claims and which rule it rests on.
-/

open Sys2Proof Sys2Proof.Machine

/-- O1. Words that the spec writes out as examples, at least one of each family, decode under the default parameters
to the instruction and the operands the spec gives them. (30_encoding.md R120, 30_encoding.md R121,
30_encoding.md R122, 30_encoding.md R123, 30_encoding.md R124, 30_encoding.md R125, 30_encoding.md R126,
30_encoding.md R127) -/
def Obligations.DecodeOfWrittenWords : Prop :=
  decode defaultParams 0x012A4020#32 = .ok (.add 8#5 9#5 10#5) ∧
    decode defaultParams 0x20830055#32 = .ok (.addi 3#5 4#5 0x55#16) ∧
    decode defaultParams 0x3C081234#32 = .ok (.lui 8#5 0x1234#16) ∧
    decode defaultParams 0x112A0003#32 = .ok (.beq 9#5 10#5 3#16) ∧
    decode defaultParams 0x0C100008#32 = .ok (.jal 0x100008#26) ∧
    decode defaultParams 0x012A0034#32 = .ok (.teq 9#5 10#5) ∧
    decode defaultParams 0x8D280004#32 = .ok (.lw 8#5 4#16 9#5) ∧
    decode defaultParams 0xE1280000#32 = .ok (.sc 8#5 0#16 9#5) ∧
    decode defaultParams 0x40886000#32 = .ok (.mtc0 8#5 12#5) ∧
    decode defaultParams 0x01254001#32 = .ok (.movt 8#5 9#5 1#3) ∧
    decode defaultParams 0x46241132#32 = .ok (.cEqD 1#3 2#5 4#5) ∧
    decode defaultParams 0x46801021#32 = .ok (.cvtDW 0#5 2#5) ∧
    decode defaultParams 0x42000018#32 = .ok .eret ∧
    decode defaultParams 0x0000018D#32 = .ok (.brk 6#20) ∧
    decode defaultParams 0x00000000#32 = .ok .nop

/-- O2. For all parameters and every well-formed instruction, with every operand at every value of its field, the
decoder reads from the word the encoder writes exactly that instruction. (30_encoding.md R101, 30_encoding.md
R102, 30_encoding.md R103, 30_encoding.md R104, 30_encoding.md R105, 30_encoding.md R128) -/
def Obligations.DecodeEncodeAgree : Prop :=
  ∀ (p : Config.Params) (i : Instr), i.wellFormed p = true → decode p (encode i) = .ok i

/-- O3. Under any parameters: if the decoder gives an instruction, the word masked by the mask in force is the
pattern of that instruction's row. If a word matches the row of some instruction that exists under the
parameters, the decoder gives an instruction of that same row, but for the nop row inside the sll row. So no
word matches two rows but for that exception, and a word that matches none is not decoded. (R128) -/
def Obligations.DecodeIsTheTable : Prop :=
  ∀ (p : Config.Params) (w : Word),
    (∀ i, decode p w = .ok i → matchesRow p w i) ∧
      ∀ j : Instr, j.wellFormed p = true → matchesRow p w j →
        ∃ i, decode p w = .ok i ∧
          (opcodeRow i = opcodeRow j ∨ (i = .nop ∧ opcodeRow j = opcodeRow (.sll 1#5 1#5 1#5)))

/-- O4. When no interrupt is taken and the fetch delivers a word that matches no row of any instruction that exists
under the parameters, the step takes the exception with code 10: EPC, BD, EXL, the vector and the frame as trap
entry leaves them. (R130) -/
def Obligations.ReservedWordRaises : Prop :=
  ∀ (s : State) (w : Word), s.sampleInputs.interruptPending = false → s.sampleInputs.fetch s.pc = .ok w →
    (∀ j : Instr, j.wellFormed s.params = true → ¬matchesRow s.params w j) →
      ∃ t, step s = .next t ∧ s.sampleInputs.trapEntered t 10 none

/-- O5. When no enabled interrupt is pending, pc is a multiple of 4 and executable, and the four bytes at pc
assembled in the byte order decode to an instruction (a well-formed one, or sll of register 0 from a word whose
ignored field is not 0), the step is exec of that instruction in the state after the outside world has acted.
(00_scope.md R10, 20_memory.md R64, 30_encoding.md R128) -/
def Obligations.StepRunsDecoded : Prop :=
  ∀ (s : State) (i : Instr), s.sampleInputs.interruptPending = false → s.pc.toNat % 4 = 0 → s.allows .execute s.pc 4 →
    decode s.params (BitVec.ofNat 32 (s.sampleInputs.assembled s.pc 4)) = .ok i →
      step s = exec i s.sampleInputs

/-- O6. At the start of a step bits 15:10 of Cause become the levels of the six lines (all low when no input is
listed) and no other bit of Cause changes; no register, flag, control state, parameter, LLaddr or count of draws
changes; one input is consumed; when no input is listed memory and LLbit are unchanged too; when one is listed,
LLbit is 1 afterwards exactly when it was 1 and none of its writes lies in the block of LL_BLOCK_BYTES bytes
that contains LLaddr, and (memory in canonical form) each byte reads the last value the event lists for its
address, every other byte as before. That inputs are a list in the state, done before the fetch and past
MEM_MAP, is the model's choice (logs 25, 26). (60_exceptions.md R511, 20_memory.md R71, 20_memory.md R73,
10_state.md R37, 10_state.md R40) -/
def Obligations.OutsideWorldFirst : Prop :=
  ∀ s : State,
    (∀ k, k < 6 →
      s.sampleInputs.cause.getLsbD (10 + k) = ((s.inputs.head?.map Event.lines).getD 0#6).getLsbD k) ∧
      (∀ k, (k < 10 ∨ 16 ≤ k) → s.sampleInputs.cause.getLsbD k = s.cause.getLsbD k) ∧
      s.sameGprs s.sampleInputs ∧ s.sameAcc s.sampleInputs ∧ s.sameFprs s.sampleInputs ∧ s.sameFccs s.sampleInputs ∧
      s.sampleInputs.status = s.status ∧ s.sampleInputs.epc = s.epc ∧ s.sampleInputs.badVAddr = s.badVAddr ∧
      s.sampleInputs.pc = s.pc ∧ s.sampleInputs.npc = s.npc ∧ s.sampleInputs.inDelaySlot = s.inDelaySlot ∧
      s.sampleInputs.params = s.params ∧ s.sampleInputs.llAddr = s.llAddr ∧ s.sampleInputs.draws = s.draws ∧
      s.sampleInputs.inputs = s.inputs.tail ∧
      (s.inputs = [] → s.sameMemory s.sampleInputs ∧ s.sampleInputs.llBit = s.llBit) ∧
      ∀ event rest, s.inputs = event :: rest →
        (s.sampleInputs.llBit = true ↔
          s.llBit = true ∧
            ∀ w ∈ event.writes, w.1.toNat / s.params.llBlockBytes ≠ s.llAddr.toNat / s.params.llBlockBytes) ∧
          (s.mem.wf = true →
            (∀ (a : Word) (v : Byte) (earlier later : List (Word × Byte)), event.writes = earlier ++ (a, v) :: later →
              (∀ w ∈ later, w.1 ≠ a) → s.sampleInputs.readByte a = v) ∧
              ∀ a : Word, (∀ w ∈ event.writes, w.1 ≠ a) → s.sampleInputs.readByte a = s.readByte a)

/-- O7. With the lines sampled: if Status.IE is 1, Status.EXL is 0 and for some k below 8 both IP[k] and IM[k] are
1, the step is trap entry with code 0 and executes nothing else, so EPC is the address of the instruction about
to execute, or of the branch before it with BD = 1. Otherwise no interrupt is taken: the step fetches and runs.
(R512, R513) -/
def Obligations.InterruptExactlyWhenEnabled : Prop :=
  ∀ s : State,
    let u := s.sampleInputs
    let enabled := u.status.getLsbD 0 = true ∧ u.status.getLsbD 1 = false ∧
      ∃ k, k < 8 ∧ u.cause.getLsbD (8 + k) = true ∧ u.status.getLsbD (8 + k) = true
    (enabled → ∃ t, step s = .next t ∧ u.trapEntered t 0 none) ∧ (¬enabled → step s = u.fetchAndRun)

/-- O8. When no interrupt is taken: a pc that is no multiple of 4 raises AddressErrorLoad with BadVAddr = pc; an
aligned pc that the map does not make executable raises BusErrorFetch; otherwise the step runs the word made of
the four bytes at pc in the byte order of data. (R64) -/
def Obligations.FetchExceptions : Prop :=
  ∀ s : State, s.sampleInputs.interruptPending = false →
    (s.pc.toNat % 4 ≠ 0 → ∃ t, step s = .next t ∧ s.sampleInputs.trapEntered t 4 (some s.pc)) ∧
      (s.pc.toNat % 4 = 0 → ¬s.allows .execute s.pc 4 →
        ∃ t, step s = .next t ∧ s.sampleInputs.trapEntered t 6 none) ∧
      (s.pc.toNat % 4 = 0 → s.allows .execute s.pc 4 →
        step s = s.sampleInputs.runWord (BitVec.ofNat 32 (s.sampleInputs.assembled s.pc 4)))

/-- O9. From every state in which memory is in its canonical form, the entry of register 0 is 0, the bits of Cause
that do not exist are 0, npc is pc + 4 outside a delay slot, and no instruction is in a delay slot without
delayed branches, a step that gives a next state gives one with all five properties. The canonical form is the
model's own (log 9). (10_state.md R22, 10_state.md R25, 10_state.md R30, 20_memory.md R60, 60_exceptions.md
R506, 47_exception_instructions.md R480) -/
def Obligations.StepKeepsInvariant : Prop :=
  ∀ s t : State, s.Inv → step s = .next t → t.Inv

/-- O10. The state after reset has the five properties of the invariant that every step keeps. (10_state.md R46,
10_state.md R25, 10_state.md R30) -/
def Obligations.ResetInvariant : Prop :=
  State.reset.Inv

/-- O11. After reset pc is RESET_PC and npc RESET_PC + 4, no instruction is in a delay slot, register 0 reads 0,
Status.IE, EXL and every IM bit are 0, Cause.IP1, IP0 and BD are 0 and LLbit is 0. Nothing is said of what the
spec leaves unspecified. (10_state.md R46, 70_reset_and_hazards.md R551) -/
def Obligations.ResetValues : Prop :=
  State.reset.pc = State.reset.params.resetPc ∧ State.reset.npc = State.reset.params.resetPc + 4#32 ∧
    State.reset.inDelaySlot = false ∧ State.reset.getGpr 0#5 = 0#32 ∧ statusIE State.reset.status = false ∧
    statusEXL State.reset.status = false ∧ statusIM State.reset.status = 0#8 ∧
    State.reset.cause.getLsbD 8 = false ∧ State.reset.cause.getLsbD 9 = false ∧ causeBD State.reset.cause = false ∧
    State.reset.llBit = false

/-- O12. Whatever a step does, the parameters (the byte order among them) are as before, the first input is
consumed, and the count of free values drawn does not fall. That the parameters, the inputs and the count are
fields of the state is the model's choice (logs 1, 11, 25). (00_scope.md R4, 20_memory.md R62, 10_state.md R40) -/
def Obligations.StepKeepsParameters : Prop :=
  ∀ s t : State, step s = .next t → t.params = s.params ∧ t.inputs = s.inputs.tail ∧ s.draws ≤ t.draws

/-- O13. For every instruction and every state, exec gives a next state exactly when none of these holds: a branch,
jump or eret in a delay slot; a link instruction whose operand is its link register; an odd double-precision
register; an absent coprocessor 0 register; sc at another aligned address than the reservation's while LLbit is
1; break 1; a host service that ends the run. That an odd double stops an instruction whatever the address or
the condition (log 22), and that sc at another address stores under SC_ALWAYS_SUCCEEDS (log 24), is the model's
choice, DEDUCED. (00_scope.md R10, 93_implementation_defined.md list U, 42_branch_jump.md R289,
46_floating_point.md R401, 10_state.md R32, 20_memory.md R73, 47_exception_instructions.md R482) -/
def Obligations.RunsUnlessStopped : Prop :=
  ∀ (i : Instr) (s : State), (∃ t, exec i s = .next t) ↔ ¬s.stopsAt i

/-- O14. Whatever instruction executes in whatever state: afterwards register 0 reads as 0 as it did before, and
what stands in its entry of the register file is what stood there, so a write to it is discarded. (R22) -/
def Obligations.RegisterZeroNeverWritten : Prop :=
  ∀ (i : Instr) (s t : State), exec i s = .next t →
    s.getGpr 0#5 = 0#32 ∧ t.getGpr 0#5 = 0#32 ∧ t.gpr[0] = s.gpr[0]

/-- O15. If an instruction gives a next state, then either that state is trap entry, or Status is unchanged unless
the instruction is eret or mtc0 to 12, Cause unless it is mtc0 to 13, EPC unless it is mtc0 to 14, and BadVAddr
always. (10_state.md R28, 10_state.md R29, 10_state.md R30, 10_state.md R31, 60_exceptions.md R520) -/
def Obligations.Cop0Writers : Prop :=
  ∀ (i : Instr) (s t : State), exec i s = .next t →
    (∃ e, t = s.takeException e) ∨
      ((t.status = s.status ∨ i = .eret ∨ ∃ rt, i = .mtc0 rt 12#5) ∧ (t.cause = s.cause ∨ ∃ rt, i = .mtc0 rt 13#5) ∧
        (t.epc = s.epc ∨ ∃ rt, i = .mtc0 rt 14#5) ∧ t.badVAddr = s.badVAddr)

/-- O16. If an instruction other than sb, sh, sw, swc1, sdc1, swl, swr, sc and syscall gives a next state, every
byte of memory reads as before; so does every byte when syscall runs with SYSCALL_MODE = trap. (20_memory.md
R61, 20_memory.md R71, 44_load_store.md R330) -/
def Obligations.MemoryWriters : Prop :=
  ∀ (i : Instr) (s t : State), exec i s = .next t →
    (mayStore i = false ∨ (i = .syscall ∧ s.params.syscallMode = .trap)) → s.sameMemory t

/-- O17. If an instruction gives a next state: the condition flags are as before unless it is one of the six
compares; hi and lo are as before unless it is a multiply, divide, multiply-accumulate, mul, mthi or mtlo; LLbit
and LLaddr are as before unless it is ll, sc or eret. That a host service (syscall) leaves them is the model's
choice (log 18). (10_state.md R35, 10_state.md R26, 10_state.md R37, 20_memory.md R73) -/
def Obligations.FlagAccReservationWriters : Prop :=
  ∀ (i : Instr) (s t : State), exec i s = .next t →
    (isCompare i = false → s.sameFccs t) ∧ (writesAcc i = false → s.sameAcc t) ∧
      (writesReservation i = false → s.sameReservation t)

/-- O18. Each completes in every state; the destination gets the exact sum or difference modulo 2^32 (addiu with the
sign-extended immediate), register 0 stays 0, every other register, flag, special register and byte of memory is
unchanged, and execution goes on at the next instruction. (40_arithmetic_logical.md R150,
40_arithmetic_logical.md R153, 40_arithmetic_logical.md R155, 40_arithmetic_logical.md R190, 30_encoding.md
R110) -/
def Obligations.AddSubWithoutOverflow : Prop :=
  ∀ (s : State) (rd rs rt : Reg) (imm : Imm16),
    (s.computes (.addu rd rs rt) rd fun v => v.toNat = ((s.getGpr rs).toNat + (s.getGpr rt).toNat) % 2 ^ 32) ∧
      (s.computes (.addiu rt rs imm) rt fun v =>
        (v.toNat : Int) = ((s.getGpr rs).toNat + imm.toInt) % 2 ^ 32) ∧
      s.computes (.subu rd rs rt) rd fun v =>
        (v.toNat : Int) = ((s.getGpr rs).toNat - (s.getGpr rt).toNat : Int) % 2 ^ 32

/-- O19. With the operands read as signed and the result exact: if it lies in -2^31 .. 2^31-1 the instruction writes
it to its destination, nothing else, and goes on; otherwise it takes the exception with code 12 and every
register is unchanged. (40_arithmetic_logical.md R150, 40_arithmetic_logical.md R152, 40_arithmetic_logical.md
R154, 40_arithmetic_logical.md R189, 60_exceptions.md R501) -/
def Obligations.AddSubWithOverflow : Prop :=
  ∀ (s : State) (rd rs rt : Reg) (imm : Imm16),
    s.computesChecked (.add rd rs rt) rd ((s.getGpr rs).toInt + (s.getGpr rt).toInt) ∧
      s.computesChecked (.addi rt rs imm) rt ((s.getGpr rs).toInt + imm.toInt) ∧
      s.computesChecked (.sub rd rs rt) rd ((s.getGpr rs).toInt - (s.getGpr rt).toInt)

/-- O20. and, or, xor, nor and andi, ori, xori complete in every state; each bit of the destination is the logical
function of the same bits of the operands, with the bits of an immediate above bit 15 being 0; nothing else
changes. (40_arithmetic_logical.md R156, 40_arithmetic_logical.md R157, 40_arithmetic_logical.md R175,
40_arithmetic_logical.md R177, 40_arithmetic_logical.md R178, 40_arithmetic_logical.md R191,
40_arithmetic_logical.md R192, 30_encoding.md R111) -/
def Obligations.LogicalBits : Prop :=
  ∀ (s : State) (rd rs rt : Reg) (imm : Imm16),
    (s.computes (.and rd rs rt) rd fun v => ∀ k, v.getLsbD k = ((s.getGpr rs).getLsbD k && (s.getGpr rt).getLsbD k)) ∧
      (s.computes (.or rd rs rt) rd fun v => ∀ k, v.getLsbD k = ((s.getGpr rs).getLsbD k || (s.getGpr rt).getLsbD k)) ∧
      (s.computes (.xor rd rs rt) rd fun v =>
        ∀ k, v.getLsbD k = ((s.getGpr rs).getLsbD k != (s.getGpr rt).getLsbD k)) ∧
      (s.computes (.nor rd rs rt) rd fun v =>
        ∀ k, k < 32 → v.getLsbD k = !((s.getGpr rs).getLsbD k || (s.getGpr rt).getLsbD k)) ∧
      (s.computes (.andi rt rs imm) rt fun v => ∀ k, v.getLsbD k = ((s.getGpr rs).getLsbD k && imm.getLsbD k)) ∧
      (s.computes (.ori rt rs imm) rt fun v => ∀ k, v.getLsbD k = ((s.getGpr rs).getLsbD k || imm.getLsbD k)) ∧
      s.computes (.xori rt rs imm) rt fun v => ∀ k, v.getLsbD k = ((s.getGpr rs).getLsbD k != imm.getLsbD k)

/-- O21. sll and sllv give the value times 2^n modulo 2^32, srl and srlv the unsigned value divided by 2^n, sra and
srav the signed value divided by 2^n rounded down; n is shamt, or the low five bits of rs. They complete in
every state and change nothing else. (40_arithmetic_logical.md R181, 40_arithmetic_logical.md R182,
40_arithmetic_logical.md R183, 40_arithmetic_logical.md R184, 40_arithmetic_logical.md R185,
40_arithmetic_logical.md R186, 30_encoding.md R115) -/
def Obligations.Shifts : Prop :=
  ∀ (s : State) (rd rt rs : Reg) (shamt : Shamt),
    (s.computes (.sll rd rt shamt) rd fun v => v.toNat = (s.getGpr rt).toNat * 2 ^ shamt.toNat % 2 ^ 32) ∧
      (s.computes (.sllv rd rt rs) rd fun v =>
        v.toNat = (s.getGpr rt).toNat * 2 ^ ((s.getGpr rs).toNat % 32) % 2 ^ 32) ∧
      (s.computes (.srl rd rt shamt) rd fun v => v.toNat = (s.getGpr rt).toNat / 2 ^ shamt.toNat) ∧
      (s.computes (.srlv rd rt rs) rd fun v => v.toNat = (s.getGpr rt).toNat / 2 ^ ((s.getGpr rs).toNat % 32)) ∧
      (s.computes (.sra rd rt shamt) rd fun v => v.toInt = (s.getGpr rt).toInt / 2 ^ shamt.toNat) ∧
      s.computes (.srav rd rt rs) rd fun v => v.toInt = (s.getGpr rt).toInt / 2 ^ ((s.getGpr rs).toNat % 32)

/-- O22. The word with 0x1c in bits 31:26, rs, 0, rd, 0 and 0x21 or 0x20 in bits 5:0 is clo or clz. The destination
gets the number n, at most 32, such that the n highest bits of the operand are 1 (clo) or 0 (clz) and, if n is
below 32, the next bit is not. They complete in every state, raise no exception and change nothing else. (R158,
R159) -/
def Obligations.CountLeading : Prop :=
  ∀ (rd rs : Reg),
    (∀ p, decode p (BitVec.ofNat 32 (0x1c * 2 ^ 26 + rs.toNat * 2 ^ 21 + rd.toNat * 2 ^ 11 + 0x21)) = .ok (.clo rd rs) ∧
      decode p (BitVec.ofNat 32 (0x1c * 2 ^ 26 + rs.toNat * 2 ^ 21 + rd.toNat * 2 ^ 11 + 0x20)) = .ok (.clz rd rs)) ∧
      ∀ s : State,
        (s.computes (.clo rd rs) rd fun v => v.toNat ≤ 32 ∧
          (∀ k, k < v.toNat → (s.getGpr rs).getLsbD (31 - k) = true) ∧
          (v.toNat < 32 → (s.getGpr rs).getLsbD (31 - v.toNat) = false)) ∧
          s.computes (.clz rd rs) rd fun v => v.toNat ≤ 32 ∧
            (∀ k, k < v.toNat → (s.getGpr rs).getLsbD (31 - k) = false) ∧
            (v.toNat < 32 → (s.getGpr rs).getLsbD (31 - v.toNat) = true)

/-- O23. mult: hi read as signed times 2^32 plus lo read as unsigned is the exact signed product; multu: the same
with everything unsigned. madd, maddu, msub, msubu: the new value of hi || lo is the old one plus or minus the
exact product, signed or unsigned, modulo 2^64. They complete in every state and change nothing but hi and lo.
(40_arithmetic_logical.md R164, 40_arithmetic_logical.md R165, 40_arithmetic_logical.md R169,
40_arithmetic_logical.md R170, 40_arithmetic_logical.md R171, 40_arithmetic_logical.md R172, 10_state.md R26) -/
def Obligations.Multiply : Prop :=
  ∀ (s : State) (rs rt : Reg),
    let acc : Int := s.hi.toNat * 2 ^ 32 + s.lo.toNat
    (s.computesAcc (.mult rs rt) fun hi lo =>
      hi.toInt * 2 ^ 32 + lo.toNat = (s.getGpr rs).toInt * (s.getGpr rt).toInt) ∧
      (s.computesAcc (.multu rs rt) fun hi lo =>
        hi.toNat * 2 ^ 32 + lo.toNat = (s.getGpr rs).toNat * (s.getGpr rt).toNat) ∧
      (s.computesAcc (.madd rs rt) fun hi lo =>
        (hi.toNat * 2 ^ 32 + lo.toNat : Int) = (acc + (s.getGpr rs).toInt * (s.getGpr rt).toInt) % 2 ^ 64) ∧
      (s.computesAcc (.maddu rs rt) fun hi lo =>
        (hi.toNat * 2 ^ 32 + lo.toNat : Int) = (acc + (s.getGpr rs).toNat * (s.getGpr rt).toNat) % 2 ^ 64) ∧
      (s.computesAcc (.msub rs rt) fun hi lo =>
        (hi.toNat * 2 ^ 32 + lo.toNat : Int) = (acc - (s.getGpr rs).toInt * (s.getGpr rt).toInt) % 2 ^ 64) ∧
      s.computesAcc (.msubu rs rt) fun hi lo =>
        (hi.toNat * 2 ^ 32 + lo.toNat : Int) = (acc - (s.getGpr rs).toNat * (s.getGpr rt).toNat) % 2 ^ 64

/-- O24. mul completes in every state: the destination gets the low 32 bits of the product; nothing else changes but
hi and lo, of which nothing is said. (40_arithmetic_logical.md R166) -/
def Obligations.MulLowWord : Prop :=
  ∀ (s : State) (rd rs rt : Reg), ∃ t v, exec (.mul rd rs rt) s = .next t ∧ s.gprsBut t rd v ∧
    v.toNat = (s.getGpr rs).toNat * (s.getGpr rt).toNat % 2 ^ 32 ∧ s.sameCop0 t ∧ s.sameFprs t ∧ s.sameFccs t ∧
    s.sameReservation t ∧ s.sameMemory t ∧ s.sameWorld t ∧ s.goesOn t

/-- O25. div with a non-negative dividend and a positive divisor, and divu with a divisor that is not 0, leave the
quotient rounded down in lo and the remainder in hi and change nothing else. With a divisor of 0, and div of
-2^31 by -1, no exception is raised, execution goes on and nothing but hi and lo changes; nothing is said of
those two. (40_arithmetic_logical.md R160, 40_arithmetic_logical.md R161, 40_arithmetic_logical.md R194) -/
def Obligations.DivideUnsignedAndOpen : Prop :=
  ∀ (s : State) (rs rt : Reg),
    (0 ≤ (s.getGpr rs).toInt → 0 < (s.getGpr rt).toInt →
      s.computesAcc (.div rs rt) fun hi lo =>
        lo.toInt = (s.getGpr rs).toInt / (s.getGpr rt).toInt ∧ hi.toInt = (s.getGpr rs).toInt % (s.getGpr rt).toInt) ∧
      (s.getGpr rt ≠ 0#32 →
        s.computesAcc (.divu rs rt) fun hi lo =>
          lo.toNat = (s.getGpr rs).toNat / (s.getGpr rt).toNat ∧ hi.toNat = (s.getGpr rs).toNat % (s.getGpr rt).toNat) ∧
      ((s.getGpr rt = 0#32 ∨ (s.getGpr rs = 0x80000000#32 ∧ s.getGpr rt = 0xFFFFFFFF#32)) →
        ∃ t, exec (.div rs rt) s = .next t ∧ s.sameButAcc t ∧ s.goesOn t) ∧
      (s.getGpr rt = 0#32 → ∃ t, exec (.divu rs rt) s = .next t ∧ s.sameButAcc t ∧ s.goesOn t)

/-- O26. When an operand is negative, the divisor is not 0 and the quotient fits: dividend = lo * divisor + hi and
|hi| < |divisor|; under truncating division hi has the sign of the dividend or is 0, under flooring that of the
divisor or is 0. Nothing but hi and lo changes, and a free value is drawn under the setting anyConvention only.
These settings of SIGNED_DIV are the model's (log 13). (40_arithmetic_logical.md R160, 40_arithmetic_logical.md
R194, 00_scope.md R4) -/
def Obligations.DivideSigned : Prop :=
  ∀ (s : State) (rs rt : Reg),
    let n := (s.getGpr rs).toInt
    let d := (s.getGpr rt).toInt
    (n < 0 ∨ d < 0) → d ≠ 0 → ¬(n = -(2 ^ 31) ∧ d = -1) →
      ∃ t, exec (.div rs rt) s = .next t ∧ s.sameButAcc t ∧ s.goesOn t ∧ n = t.lo.toInt * d + t.hi.toInt ∧
        |t.hi.toInt| < |d| ∧
        (s.params.signedDiv = .truncating → t.hi.toInt = 0 ∨ (t.hi.toInt < 0 ↔ n < 0)) ∧
        (s.params.signedDiv = .flooring → t.hi.toInt = 0 ∨ (t.hi.toInt < 0 ↔ d < 0)) ∧
        (s.params.signedDiv ≠ .anyConvention → t.draws = s.draws)

/-- O27. mfhi and mflo write hi or lo to a general register; mthi and mtlo write a general register to hi or lo and
leave the other of the two. They complete in every state and change nothing else. (45_data_movement.md R381,
45_data_movement.md R382, 45_data_movement.md R383, 45_data_movement.md R384) -/
def Obligations.HiLoMoves : Prop :=
  ∀ (s : State) (rd rs : Reg),
    (s.computes (.mfhi rd) rd fun v => v = s.hi) ∧ (s.computes (.mflo rd) rd fun v => v = s.lo) ∧
      (s.computesAcc (.mthi rs) fun hi lo => hi = s.getGpr rs ∧ lo = s.lo) ∧
      s.computesAcc (.mtlo rs) fun hi lo => hi = s.hi ∧ lo = s.getGpr rs

/-- O28. slt and slti compare as signed numbers, sltu and sltiu as unsigned ones, the immediate sign-extended first
in both; the destination gets 1 if less and 0 otherwise. lui writes the immediate times 2^16. They complete in
every state and change nothing else. (41_constant_comparison.md R220, 41_constant_comparison.md R222,
41_constant_comparison.md R223, 41_constant_comparison.md R224, 41_constant_comparison.md R225, 30_encoding.md
R110, 30_encoding.md R112) -/
def Obligations.SetLessAndLui : Prop :=
  ∀ (s : State) (rd rs rt : Reg) (imm : Imm16),
    (s.computes (.lui rt imm) rt fun v => v.toNat = imm.toNat * 65536) ∧
      (s.computes (.slt rd rs rt) rd fun v =>
        v.toNat = if (s.getGpr rs).toInt < (s.getGpr rt).toInt then 1 else 0) ∧
      (s.computes (.sltu rd rs rt) rd fun v =>
        v.toNat = if (s.getGpr rs).toNat < (s.getGpr rt).toNat then 1 else 0) ∧
      (s.computes (.slti rt rs imm) rt fun v => v.toNat = if (s.getGpr rs).toInt < imm.toInt then 1 else 0) ∧
      s.computes (.sltiu rt rs imm) rt fun v =>
        v.toNat = if ((s.getGpr rs).toNat : Int) < imm.toInt % 2 ^ 32 then 1 else 0

/-- O29. For every register but 0 and every 32-bit value, executing the instructions that li stands for leaves the
value in the register, every other register, flag, special register and byte as before.
(41_constant_comparison.md R221, 30_encoding.md R136) -/
def Obligations.LiLoadsItsValue : Prop :=
  ∀ (s : State) (rdest : Reg) (v : Word), rdest ≠ 0#5 →
    ∃ t, execAll (expandLi rdest v) s = .next t ∧ s.gprsBut t rdest v ∧ s.sameButGprs t

/-- O30. The words of the four, with rs in bits 25:21, rt or the flag number and the sense in bits 20:16, rd in bits
15:11 and 0xb, 0xa or 1 in bits 10:0, decode to them. When the condition on rt or on the flag holds, rs is
copied to rd and nothing else changes; when it does not, nothing changes at all. Either way execution goes on.
(R390, R391, R392, R393) -/
def Obligations.ConditionalMoves : Prop :=
  ∀ (rd rs rt : Reg) (cc : CondFlag),
    (∀ p,
      decode p (BitVec.ofNat 32 (rs.toNat * 2 ^ 21 + rt.toNat * 2 ^ 16 + rd.toNat * 2 ^ 11 + 0xb)) = .ok (.movn rd rs rt) ∧
        decode p (BitVec.ofNat 32 (rs.toNat * 2 ^ 21 + rt.toNat * 2 ^ 16 + rd.toNat * 2 ^ 11 + 0xa)) = .ok (.movz rd rs rt) ∧
        decode p (BitVec.ofNat 32 (rs.toNat * 2 ^ 21 + cc.toNat * 2 ^ 18 + rd.toNat * 2 ^ 11 + 1)) = .ok (.movf rd rs cc) ∧
        decode p (BitVec.ofNat 32 (rs.toNat * 2 ^ 21 + cc.toNat * 2 ^ 18 + 2 ^ 16 + rd.toNat * 2 ^ 11 + 1)) =
          .ok (.movt rd rs cc)) ∧
      ∀ s : State,
        s.movesIf (.movn rd rs rt) (s.getGpr rt ≠ 0#32) rd (s.getGpr rs) ∧
          s.movesIf (.movz rd rs rt) (s.getGpr rt = 0#32) rd (s.getGpr rs) ∧
          s.movesIf (.movf rd rs cc) (s.getFcc cc = false) rd (s.getGpr rs) ∧
          s.movesIf (.movt rd rs cc) (s.getFcc cc = true) rd (s.getGpr rs)

/-- O31. mfc0 of 8, 12 and 14 writes BadVAddr, Status and EPC to the general register; of 13 it writes Cause with
bits 31, 15:8 and 6:2 as they stand and every other bit 0. Nothing else changes. Any other number is refused by
name. (45_data_movement.md R385, 10_state.md R28, 10_state.md R29, 10_state.md R30, 10_state.md R31, 10_state.md
R32) -/
def Obligations.Cop0Reads : Prop :=
  ∀ (s : State) (rt : Reg),
    (s.computes (.mfc0 rt 8#5) rt fun v => v = s.badVAddr) ∧ (s.computes (.mfc0 rt 12#5) rt fun v => v = s.status) ∧
      (s.computes (.mfc0 rt 14#5) rt fun v => v = s.epc) ∧
      (s.computes (.mfc0 rt 13#5) rt fun v =>
        ∀ k, v.getLsbD k = (s.cause.getLsbD k && decide (k = 31 ∨ (8 ≤ k ∧ k < 16) ∨ (2 ≤ k ∧ k < 7)))) ∧
      ∀ rd, cop0Exists rd = false → exec (.mfc0 rt rd) s = .refused (.cop0RegisterAbsent rd)

/-- O32. mtc0 to 12 or 14 makes Status or EPC the general register; to 13 it copies bits 9:8 and 6:2 into Cause and
keeps the others; to 8 it changes nothing. Nothing else changes and execution goes on. Any other number is
refused by name. (45_data_movement.md R388, 10_state.md R28, 10_state.md R29, 10_state.md R30, 10_state.md R31,
10_state.md R32) -/
def Obligations.Cop0Writes : Prop :=
  ∀ (s : State) (rt : Reg),
    (∃ t, exec (.mtc0 rt 12#5) s = .next t ∧ s.sameButCop0 t ∧ s.goesOn t ∧ t.status = s.getGpr rt ∧
      t.cause = s.cause ∧ t.epc = s.epc ∧ t.badVAddr = s.badVAddr) ∧
      (∃ t, exec (.mtc0 rt 14#5) s = .next t ∧ s.sameButCop0 t ∧ s.goesOn t ∧ t.status = s.status ∧
        t.cause = s.cause ∧ t.epc = s.getGpr rt ∧ t.badVAddr = s.badVAddr) ∧
      (∃ t, exec (.mtc0 rt 13#5) s = .next t ∧ s.sameButCop0 t ∧ s.goesOn t ∧ t.status = s.status ∧
        (∀ k, t.cause.getLsbD k =
          if (8 ≤ k ∧ k < 10) ∨ (2 ≤ k ∧ k < 7) then (s.getGpr rt).getLsbD k else s.cause.getLsbD k) ∧
        t.epc = s.epc ∧ t.badVAddr = s.badVAddr) ∧
      (∃ t, exec (.mtc0 rt 8#5) s = .next t ∧ s.onlyWentOn t) ∧
      ∀ rd, cop0Exists rd = false → exec (.mtc0 rt rd) s = .refused (.cop0RegisterAbsent rd)

/-- O33. Outside a delay slot: when the condition holds control goes to the target, after the delay slot if branches
are delayed; when it does not, execution goes on, the next instruction being in the delay slot. Nothing but
control changes. For both values of DELAYED_BRANCHES. (42_branch_jump.md R250, 42_branch_jump.md R251,
42_branch_jump.md R255, 42_branch_jump.md R256, 42_branch_jump.md R257, 42_branch_jump.md R258,
42_branch_jump.md R260, 42_branch_jump.md R261, 42_branch_jump.md R263, 42_branch_jump.md R264, 30_encoding.md
R113) -/
def Obligations.Branches : Prop :=
  ∀ (s : State) (cc : CondFlag) (rs rt : Reg) (off : Imm16), s.inDelaySlot = false →
    s.branches (.bc1f cc off) (s.getFcc cc = false) off ∧ s.branches (.bc1t cc off) (s.getFcc cc = true) off ∧
      s.branches (.beq rs rt off) (s.getGpr rs = s.getGpr rt) off ∧
      s.branches (.bne rs rt off) (s.getGpr rs ≠ s.getGpr rt) off ∧
      s.branches (.bgez rs off) (0 ≤ (s.getGpr rs).toInt) off ∧
      s.branches (.bgtz rs off) (0 < (s.getGpr rs).toInt) off ∧
      s.branches (.blez rs off) ((s.getGpr rs).toInt ≤ 0) off ∧
      s.branches (.bltz rs off) ((s.getGpr rs).toInt < 0) off

/-- O34. Outside a delay slot: when the condition holds, as the plain branch; when it does not, execution goes on at
pc + 8 past the delay slot if branches are delayed, else at the next instruction. Nothing but control changes.
(42_branch_jump.md R253, 42_branch_jump.md R275, 42_branch_jump.md R276, 42_branch_jump.md R277,
42_branch_jump.md R278, 42_branch_jump.md R280, 42_branch_jump.md R281, 42_branch_jump.md R283,
42_branch_jump.md R284) -/
def Obligations.BranchesLikely : Prop :=
  ∀ (s : State) (cc : CondFlag) (rs rt : Reg) (off : Imm16), s.inDelaySlot = false →
    s.branchesLikely (.bc1fl cc off) (s.getFcc cc = false) off ∧
      s.branchesLikely (.bc1tl cc off) (s.getFcc cc = true) off ∧
      s.branchesLikely (.beql rs rt off) (s.getGpr rs = s.getGpr rt) off ∧
      s.branchesLikely (.bnel rs rt off) (s.getGpr rs ≠ s.getGpr rt) off ∧
      s.branchesLikely (.bgezl rs off) (0 ≤ (s.getGpr rs).toInt) off ∧
      s.branchesLikely (.bgtzl rs off) (0 < (s.getGpr rs).toInt) off ∧
      s.branchesLikely (.blezl rs off) ((s.getGpr rs).toInt ≤ 0) off ∧
      s.branchesLikely (.bltzl rs off) ((s.getGpr rs).toInt < 0) off

/-- O35. Outside a delay slot and with rs not 31: register 31 gets pc + 8 with delayed branches and pc + 4 without,
taken or not; control goes to pc + 4 + 4 * offset when the condition on rs holds; when not, execution goes on,
or past the delay slot for the likely forms. Nothing else changes. (42_branch_jump.md R252, 42_branch_jump.md
R253, 42_branch_jump.md R259, 42_branch_jump.md R262, 42_branch_jump.md R279, 42_branch_jump.md R282) -/
def Obligations.LinkBranches : Prop :=
  ∀ (s : State) (rs : Reg) (off : Imm16), s.inDelaySlot = false → rs ≠ 31#5 →
    (∃ t, exec (.bgezal rs off) s = .next t ∧ s.linked t 31#5 ∧
      (0 ≤ (s.getGpr rs).toInt → s.wentTo t (s.offsetAddress off)) ∧ ((s.getGpr rs).toInt < 0 → s.ranOn t)) ∧
      (∃ t, exec (.bltzal rs off) s = .next t ∧ s.linked t 31#5 ∧
        ((s.getGpr rs).toInt < 0 → s.wentTo t (s.offsetAddress off)) ∧ (0 ≤ (s.getGpr rs).toInt → s.ranOn t)) ∧
      (∃ t, exec (.bgezall rs off) s = .next t ∧ s.linked t 31#5 ∧
        (0 ≤ (s.getGpr rs).toInt → s.wentTo t (s.offsetAddress off)) ∧ ((s.getGpr rs).toInt < 0 → s.skippedSlot t)) ∧
      ∃ t, exec (.bltzall rs off) s = .next t ∧ s.linked t 31#5 ∧
        ((s.getGpr rs).toInt < 0 → s.wentTo t (s.offsetAddress off)) ∧ (0 ≤ (s.getGpr rs).toInt → s.skippedSlot t)

/-- O36. Outside a delay slot: j and jal go to the word target within the 256 MB region of pc + 4, jr and jalr to
the value of rs read before the link is written; jal writes the return address to register 31, jalr (with rd not
rs) to rd, where register 0 discards it. Nothing else changes. (42_branch_jump.md R252, 42_branch_jump.md R285,
42_branch_jump.md R286, 42_branch_jump.md R287, 42_branch_jump.md R288, 30_encoding.md R114) -/
def Obligations.Jumps : Prop :=
  ∀ (s : State) (target : Target26) (rs rd : Reg), s.inDelaySlot = false →
    let region := BitVec.ofNat 32 ((s.pc + 4#32).toNat / 2 ^ 28 * 2 ^ 28 + target.toNat * 4)
    (∃ t, exec (.j target) s = .next t ∧ s.sameButControl t ∧ s.wentTo t region) ∧
      (∃ t, exec (.jal target) s = .next t ∧ s.linked t 31#5 ∧ s.wentTo t region) ∧
      (∃ t, exec (.jr rs) s = .next t ∧ s.sameButControl t ∧ s.wentTo t (s.getGpr rs)) ∧
      (rd ≠ rs → ∃ t, exec (.jalr rs rd) s = .next t ∧ s.linked t rd ∧ s.wentTo t (s.getGpr rs))

/-- O37. Every branch, jump and eret whose step finds it in a delay slot is refused as a control transfer in a delay
slot. Outside a delay slot bgezal, bltzal and their likely forms with rs = 31, and jalr with rd = rs, are
refused as a link hazard. Every double-precision instruction, ldc1 and sdc1 with an odd register as a double
operand is refused as that. That it is refused whatever the address or the condition of a conditional move is
the model's choice, DEDUCED (log 22). (42_branch_jump.md R289, 70_reset_and_hazards.md R556,
46_floating_point.md R401, 44_load_store.md R338, 44_load_store.md R350, 10_state.md R34,
93_implementation_defined.md U5, U6, U10, U11) -/
def Obligations.NamedRefusals : Prop :=
  ∀ (s : State) (i : Instr),
    (transfersControl i = true → s.inDelaySlot = true → exec i s = .refused .controlTransferInDelaySlot) ∧
      (linkHazard i = true → s.inDelaySlot = false → exec i s = .refused .linkRegisterHazard) ∧
      (hasOddDouble i = true → exec i s = .refused .oddDoubleRegister)

/-- O38. When the comparison of rs with rt, or with the sign-extended immediate (compared as unsigned in the u
forms), holds, the instruction takes the exception with code 13 with every register and byte unchanged; when it
does not, it does nothing and goes on. (43_trap.md R311, 43_trap.md R312, 43_trap.md R313, 43_trap.md R314,
43_trap.md R315, 43_trap.md R316, 43_trap.md R317, 43_trap.md R318, 43_trap.md R319, 43_trap.md R320, 43_trap.md
R321, 43_trap.md R322) -/
def Obligations.Traps : Prop :=
  ∀ (s : State) (rs rt : Reg) (imm : Imm16),
    s.trapsIf (.teq rs rt) (s.getGpr rs = s.getGpr rt) ∧
      s.trapsIf (.teqi rs imm) ((s.getGpr rs).toInt = imm.toInt) ∧
      s.trapsIf (.tne rs rt) (s.getGpr rs ≠ s.getGpr rt) ∧
      s.trapsIf (.tnei rs imm) ((s.getGpr rs).toInt ≠ imm.toInt) ∧
      s.trapsIf (.tge rs rt) ((s.getGpr rt).toInt ≤ (s.getGpr rs).toInt) ∧
      s.trapsIf (.tgeu rs rt) ((s.getGpr rt).toNat ≤ (s.getGpr rs).toNat) ∧
      s.trapsIf (.tgei rs imm) (imm.toInt ≤ (s.getGpr rs).toInt) ∧
      s.trapsIf (.tgeiu rs imm) (imm.toInt % 2 ^ 32 ≤ ((s.getGpr rs).toNat : Int)) ∧
      s.trapsIf (.tlt rs rt) ((s.getGpr rs).toInt < (s.getGpr rt).toInt) ∧
      s.trapsIf (.tltu rs rt) ((s.getGpr rs).toNat < (s.getGpr rt).toNat) ∧
      s.trapsIf (.tlti rs imm) ((s.getGpr rs).toInt < imm.toInt) ∧
      s.trapsIf (.tltiu rs imm) (((s.getGpr rs).toNat : Int) < imm.toInt % 2 ^ 32)

/-- O39. At an aligned address whose bytes the map makes readable, the destination gets the value of the bytes in
the byte order of the run, sign-extended by lb and lh and zero-extended by lbu and lhu. Nothing else changes,
memory included. (44_load_store.md R330, 44_load_store.md R332, 44_load_store.md R333, 44_load_store.md R334,
44_load_store.md R335, 44_load_store.md R336, 20_memory.md R62, 20_memory.md R66) -/
def Obligations.Loads : Prop :=
  ∀ (s : State) (rt rs : Reg) (off : Imm16),
    let a := s.operandAddress rs off
    (s.loads (.lb rt off rs) rt a 1 fun m v => v.toInt = if m < 128 then (m : Int) else m - 256) ∧
      (s.loads (.lbu rt off rs) rt a 1 fun m v => v.toNat = m) ∧
      (s.loads (.lh rt off rs) rt a 2 fun m v => v.toInt = if m < 32768 then (m : Int) else m - 65536) ∧
      (s.loads (.lhu rt off rs) rt a 2 fun m v => v.toNat = m) ∧
      s.loads (.lw rt off rs) rt a 4 fun m v => v.toNat = m

/-- O40. At an aligned readable address: lwc1 writes the word at the address to ft, any register; ldc1 with even ft
writes the 64-bit value to the pair, its low word to ft and its high word to ft + 1. Nothing else changes.
(44_load_store.md R337, 44_load_store.md R338, 20_memory.md R76, 10_state.md R34) -/
def Obligations.FpLoads : Prop :=
  ∀ (s : State) (ft : FReg) (rs : Reg) (off : Imm16),
    let a := s.operandAddress rs off
    (a.toNat % 4 = 0 → s.allows .read a 4 →
      ∃ t w, exec (.lwc1 ft off rs) s = .next t ∧ s.wroteFpr t ft w ∧ w.toNat = s.assembled a 4) ∧
      (ft.getLsbD 0 = false → a.toNat % 8 = 0 → s.allows .read a 8 →
        ∃ t v, exec (.ldc1 ft off rs) s = .next t ∧ s.wroteFprPair t ft v ∧ v.toNat = s.assembled a 8)

/-- O41. At an aligned readable address the destination gets the word, LLbit becomes 1 and LLaddr the address;
nothing else changes. (44_load_store.md R345, 20_memory.md R73) -/
def Obligations.LoadLinked : Prop :=
  ∀ (s : State) (rt rs : Reg) (off : Imm16),
    let a := s.operandAddress rs off
    a.toNat % 4 = 0 → s.allows .read a 4 →
      ∃ t v, exec (.ll rt off rs) s = .next t ∧ v.toNat = s.assembled a 4 ∧ s.gprsBut t rt v ∧ t.llBit = true ∧
        t.llAddr = a ∧ s.sameAcc t ∧ s.sameCop0 t ∧ s.sameFprs t ∧ s.sameFccs t ∧ s.sameMemory t ∧ s.sameWorld t ∧
        t.draws = s.draws ∧ s.goesOn t

/-- O42. For any address whose aligned word is readable, with b the low two bits of the address: lwl keeps the k low
bytes of the register and puts the low 4 - k bytes of the word above them; lwr keeps the j high bytes and puts
the high 4 - j bytes of the word below them; k is b or 3 - b by the byte order, j the other. Nothing else
changes. (44_load_store.md R339, 44_load_store.md R340, 20_memory.md R78) -/
def Obligations.UnalignedLoads : Prop :=
  ∀ (s : State) (rt rs : Reg) (off : Imm16),
    let a := s.operandAddress rs off
    let k := s.leftKept a
    let j := s.rightKept a
    let word := s.assembled (wordBase a) 4
    s.allows .read (wordBase a) 4 →
      (s.computes (.lwl rt off rs) rt fun v =>
        v.toNat = word * 256 ^ k % 2 ^ 32 + (s.getGpr rt).toNat % 256 ^ k) ∧
        s.computes (.lwr rt off rs) rt fun v =>
          v.toNat = (s.getGpr rt).toNat / 256 ^ (4 - j) * 256 ^ (4 - j) + word / 256 ^ j

/-- O43. In a state whose memory has its canonical form, at an aligned address whose bytes the map makes writable:
the bytes at the address hold the low part of the register in the byte order of the run (for sdc1, with even ft,
f[ft+1] above f[ft]); every other byte and every register is unchanged. (44_load_store.md R330, 44_load_store.md
R346, 44_load_store.md R347, 44_load_store.md R348, 44_load_store.md R349, 44_load_store.md R350, 20_memory.md
R62, 20_memory.md R67) -/
def Obligations.Stores : Prop :=
  ∀ (s : State) (rt rs : Reg) (ft : FReg) (off : Imm16), s.mem.wf = true →
    let a := s.operandAddress rs off
    s.stores (.sb rt off rs) a 1 (s.getGpr rt).toNat ∧ s.stores (.sh rt off rs) a 2 (s.getGpr rt).toNat ∧
      s.stores (.sw rt off rs) a 4 (s.getGpr rt).toNat ∧ s.stores (.swc1 ft off rs) a 4 (s.getFpr ft).toNat ∧
      (ft.getLsbD 0 = false →
        s.stores (.sdc1 ft off rs) a 8 ((s.getFpr (ft + 1#5)).toNat * 2 ^ 32 + (s.getFpr ft).toNat))

/-- O44. In a state whose memory has its canonical form, when the map makes the bytes stored writable: swl stores
the high 4 - k bytes of the register from the start of the aligned word (little-endian) or from the address
(big-endian); swr the low 4 - j bytes from the address (little-endian) or from the start of the word (big-
endian). Every other byte and every register is unchanged. (44_load_store.md R351, 44_load_store.md R352,
20_memory.md R78) -/
def Obligations.UnalignedStores : Prop :=
  ∀ (s : State) (rt rs : Reg) (off : Imm16), s.mem.wf = true →
    let a := s.operandAddress rs off
    let k := s.leftKept a
    let j := s.rightKept a
    let left := if s.params.bigEndian then a else wordBase a
    let right := if s.params.bigEndian then wordBase a else a
    (s.allows .write left (4 - k) →
      ∃ t, exec (.swl rt off rs) s = .next t ∧ s.wroteMemory t left (4 - k) ((s.getGpr rt).toNat / 256 ^ k)) ∧
      (s.allows .write right (4 - j) →
        ∃ t, exec (.swr rt off rs) s = .next t ∧ s.wroteMemory t right (4 - j) (s.getGpr rt).toNat)

/-- O45. lh, lhu at an odd address, lw, ll, lwc1 at an address that is no multiple of 4, ldc1 (even ft) at one that
is no multiple of 8 take AddressErrorLoad, code 4; sh, sw, sc, swc1, sdc1 likewise AddressErrorStore, code 5;
BadVAddr is the address; every register and byte is unchanged. (20_memory.md R65, 20_memory.md R66, 20_memory.md
R67, 60_exceptions.md R501, 60_exceptions.md R502) -/
def Obligations.MisalignedAccess : Prop :=
  ∀ (s : State) (rt rs : Reg) (ft : FReg) (off : Imm16),
    let a := s.operandAddress rs off
    s.misalignedLoad (.lh rt off rs) a 2 ∧ s.misalignedLoad (.lhu rt off rs) a 2 ∧
      s.misalignedLoad (.lw rt off rs) a 4 ∧ s.misalignedLoad (.ll rt off rs) a 4 ∧
      s.misalignedLoad (.lwc1 ft off rs) a 4 ∧
      (ft.getLsbD 0 = false → s.misalignedLoad (.ldc1 ft off rs) a 8) ∧
      s.misalignedStore (.sh rt off rs) a 2 ∧ s.misalignedStore (.sw rt off rs) a 4 ∧
      s.misalignedStore (.sc rt off rs) a 4 ∧ s.misalignedStore (.swc1 ft off rs) a 4 ∧
      (ft.getLsbD 0 = false → s.misalignedStore (.sdc1 ft off rs) a 8)

/-- O46. Every load and store whose access, aligned, the map does not allow takes the exception with code 7,
BadVAddr and every register and byte unchanged. Which address and size the map is asked for by lwl and lwr (the
aligned word) and by swl and swr (the bytes stored) is the model's choice (log 27); so is the case in which sc
would store and asks the map, under SC_ALWAYS_SUCCEEDS a mismatched address too (log 24, DEDUCED). (20_memory.md
R66, 20_memory.md R67, 20_memory.md R73, 20_memory.md R78, 44_load_store.md R356, 60_exceptions.md R501,
60_exceptions.md R502) -/
def Obligations.BusErrors : Prop :=
  ∀ (s : State) (rt rs : Reg) (ft : FReg) (off : Imm16),
    let a := s.operandAddress rs off
    let left := if s.params.bigEndian then a else wordBase a
    let right := if s.params.bigEndian then wordBase a else a
    s.busError (.lb rt off rs) .read a 1 ∧ s.busError (.lbu rt off rs) .read a 1 ∧
      s.busError (.lh rt off rs) .read a 2 ∧ s.busError (.lhu rt off rs) .read a 2 ∧
      s.busError (.lw rt off rs) .read a 4 ∧ s.busError (.ll rt off rs) .read a 4 ∧
      s.busError (.lwc1 ft off rs) .read a 4 ∧
      (ft.getLsbD 0 = false → s.busError (.ldc1 ft off rs) .read a 8) ∧
      s.busError (.lwl rt off rs) .read (wordBase a) 4 ∧ s.busError (.lwr rt off rs) .read (wordBase a) 4 ∧
      s.busError (.sb rt off rs) .write a 1 ∧ s.busError (.sh rt off rs) .write a 2 ∧
      s.busError (.sw rt off rs) .write a 4 ∧ s.busError (.swc1 ft off rs) .write a 4 ∧
      (ft.getLsbD 0 = false → s.busError (.sdc1 ft off rs) .write a 8) ∧
      (¬s.allows .write left (4 - s.leftKept a) → s.traps (.swl rt off rs) 7 none) ∧
      (¬s.allows .write right (4 - s.rightKept a) → s.traps (.swr rt off rs) 7 none) ∧
      (s.params.scAlwaysSucceeds = true ∨ (s.llBit = true ∧ a = s.llAddr) → s.busError (.sc rt off rs) .write a 4)

/-- O47. At an aligned address, memory in canonical form: with SC_ALWAYS_SUCCEEDS, or LLbit 1 and the address that
of the reservation, and the word writable, the word gets the old rt and rt becomes 1; with LLbit 0 memory is
unchanged and rt becomes 0; LLbit is 0 afterwards and nothing else changes. With LLbit 1 and another address it
is refused by name. That SC_ALWAYS_SUCCEEDS stores at another address too is the model's choice, DEDUCED (log
24). Success transfers to hardware only as log 29 says. (44_load_store.md R356, 20_memory.md R73,
90_conflicts.md C8) -/
def Obligations.StoreConditional : Prop :=
  ∀ (s : State) (rt rs : Reg) (off : Imm16), s.mem.wf = true →
    let a := s.operandAddress rs off
    a.toNat % 4 = 0 →
      ((s.params.scAlwaysSucceeds = true ∨ (s.llBit = true ∧ a = s.llAddr)) → s.allows .write a 4 →
        ∃ t, exec (.sc rt off rs) s = .next t ∧ s.storedAt t a 4 (s.getGpr rt).toNat ∧ s.gprsBut t rt 1#32 ∧
          t.llBit = false ∧ t.llAddr = s.llAddr ∧ s.sameAcc t ∧ s.sameCop0 t ∧ s.sameFprs t ∧ s.sameFccs t ∧
          s.sameWorld t ∧ t.draws = s.draws ∧ s.goesOn t) ∧
        (s.params.scAlwaysSucceeds = false → s.llBit = false →
          ∃ t, exec (.sc rt off rs) s = .next t ∧ s.gprsBut t rt 0#32 ∧ s.sameButGprs t ∧ t.draws = s.draws ∧
            s.goesOn t) ∧
        (s.params.scAlwaysSucceeds = false → s.llBit = true → a ≠ s.llAddr →
          exec (.sc rt off rs) s = .refused .scAddressMismatch)

/-- O48. For every address a, aligned or not, with its words readable: lwl at the end of the four bytes that is
leftmost in the byte order followed by lwr at the other end leaves in a destination that is not the base the
word made of the bytes a to a + 3 (register 0 discards it). For any destination, the base too, the pair done on
register 1 and followed by a copy leaves the word in both. Nothing else but control changes. (44_load_store.md
R344, 44_load_store.md R339, 44_load_store.md R340) -/
def Obligations.UnalignedWordLoad : Prop :=
  ∀ (s : State) (rt rs : Reg) (offLeft offRight : Imm16) (a : Word),
    s.operandAddress rs offLeft = (if s.params.bigEndian then a else a + 3#32) →
    s.operandAddress rs offRight = (if s.params.bigEndian then a + 3#32 else a) →
    s.allows .read (wordBase a) 4 → s.allows .read (wordBase (a + 3#32)) 4 →
      ((rt ≠ rs ∨ rt = 0#5) →
        ∃ t v, execAll [.lwl rt offLeft rs, .lwr rt offRight rs] s = .next t ∧ v.toNat = s.assembled a 4 ∧
          s.gprsBut t rt v ∧ s.sameButGprs t ∧ t.draws = s.draws) ∧
        (rs ≠ 1#5 →
          ∃ t v, execAll [.lwl 1#5 offLeft rs, .lwr 1#5 offRight rs, .addu rt 0#5 1#5] s = .next t ∧
            v.toNat = s.assembled a 4 ∧
            (∀ r, t.getGpr r = if (r = rt ∨ r = 1#5) ∧ r ≠ 0#5 then v else s.getGpr r) ∧ s.sameButGprs t ∧
            t.draws = s.draws)

/-- O49. In a state whose memory has its canonical form, for every address a, aligned or not, when the map allows
the two accesses: swl at the end that is leftmost in the byte order followed by swr at the other leaves the
register in the bytes a to a + 3 and every other byte, every register, flag and the reservation as before. Which
accesses the map is asked for is the model's choice (log 27). (44_load_store.md R355, 44_load_store.md R351,
44_load_store.md R352) -/
def Obligations.UnalignedWordStore : Prop :=
  ∀ (s : State) (rt rs : Reg) (offLeft offRight : Imm16) (a : Word), s.mem.wf = true →
    let left := if s.params.bigEndian then a else a + 3#32
    let right := if s.params.bigEndian then a + 3#32 else a
    s.operandAddress rs offLeft = left → s.operandAddress rs offRight = right →
    s.allows .write (if s.params.bigEndian then left else wordBase left) (4 - s.leftKept left) →
    s.allows .write (if s.params.bigEndian then wordBase right else right) (4 - s.rightKept right) →
      ∃ t, execAll [.swl rt offLeft rs, .swr rt offRight rs] s = .next t ∧ s.storedAt t a 4 (s.getGpr rt).toNat ∧
        s.sameButMemory t

/-- O50. mfc1 and mtc1 copy 32 bits between the register files; mov.s and mov.d copy a register or an even pair;
movf, movt, movn, movz in both formats copy when the flag or the general register satisfies the condition and do
nothing otherwise. Nothing else changes. (46_floating_point.md R434, 46_floating_point.md R435,
46_floating_point.md R436, 46_floating_point.md R438, 46_floating_point.md R440, 46_floating_point.md R442,
46_floating_point.md R437, 46_floating_point.md R439, 46_floating_point.md R441, 46_floating_point.md R443,
45_data_movement.md R386, 45_data_movement.md R389) -/
def Obligations.FpMoves : Prop :=
  ∀ (s : State) (rt : Reg) (fd fs : FReg) (cc : CondFlag),
    (s.computes (.mfc1 rt fs) rt fun v => v = s.getFpr fs) ∧
      (∃ t, exec (.mtc1 rt fs) s = .next t ∧ s.wroteFpr t fs (s.getGpr rt)) ∧
      (∃ t, exec (.movS fd fs) s = .next t ∧ s.wroteFpr t fd (s.getFpr fs)) ∧
      s.movesSingleIf (.movfS fd fs cc) (s.getFcc cc = false) fd (s.getFpr fs) ∧
      s.movesSingleIf (.movtS fd fs cc) (s.getFcc cc = true) fd (s.getFpr fs) ∧
      s.movesSingleIf (.movnS fd fs rt) (s.getGpr rt ≠ 0#32) fd (s.getFpr fs) ∧
      s.movesSingleIf (.movzS fd fs rt) (s.getGpr rt = 0#32) fd (s.getFpr fs) ∧
      (fd.getLsbD 0 = false → fs.getLsbD 0 = false →
        s.movesDoubleIf (.movD fd fs) True fd fs ∧ s.movesDoubleIf (.movfD fd fs cc) (s.getFcc cc = false) fd fs ∧
          s.movesDoubleIf (.movtD fd fs cc) (s.getFcc cc = true) fd fs ∧
          s.movesDoubleIf (.movnD fd fs rt) (s.getGpr rt ≠ 0#32) fd fs ∧
          s.movesDoubleIf (.movzD fd fs rt) (s.getGpr rt = 0#32) fd fs)

/-- O51. Operands that are no NaN: every bit of the result is that of the operand but the sign bit, which abs clears
and neg inverts. A NaN operand gives a NaN of the format, of which nothing more is said. Nothing but the
destination changes. Doubles in even registers. (46_floating_point.md R410, 46_floating_point.md R411,
46_floating_point.md R446, 46_floating_point.md R447, 46_floating_point.md R402) -/
def Obligations.FpAbsNeg : Prop :=
  ∀ (s : State) (fd fs : FReg),
    (s.computesSingle (.absS fd fs) fd fun w =>
      if singleFormat.isNan (s.getFpr fs).toNat then singleFormat.isNan w.toNat = true
      else ∀ k, w.getLsbD k = ((s.getFpr fs).getLsbD k && decide (k ≠ 31))) ∧
      (s.computesSingle (.negS fd fs) fd fun w =>
        if singleFormat.isNan (s.getFpr fs).toNat then singleFormat.isNan w.toNat = true
        else ∀ k, w.getLsbD k = ((s.getFpr fs).getLsbD k != decide (k = 31))) ∧
      (fd.getLsbD 0 = false → fs.getLsbD 0 = false →
        (s.computesDouble (.absD fd fs) fd fun v =>
          if doubleFormat.isNan (s.getDouble fs).toNat then doubleFormat.isNan v.toNat = true
          else ∀ k, v.getLsbD k = ((s.getDouble fs).getLsbD k && decide (k ≠ 63))) ∧
          s.computesDouble (.negD fd fs) fd fun v =>
            if doubleFormat.isNan (s.getDouble fs).toNat then doubleFormat.isNan v.toNat = true
            else ∀ k, v.getLsbD k = ((s.getDouble fs).getLsbD k != decide (k = 63)))

/-- O52. With FP_NUMERICS = IEEE 754, for all operands (doubles in even registers): finite operands give the exact
real sum, difference or product rounded to the nearest number of the format, ties to even, infinity from the
overflow limit on, with the sign of a zero as R402 says; infinities and invalid operations as R402 says; a NaN
result is some NaN. Nothing but the destination changes. Under any other FP_NUMERICS the destination gets what
the function of that record gives for the bits of the operands. That this parameter is IEEE 754 or one arbitrary
record is the model's choice (log 14). (46_floating_point.md R402, 46_floating_point.md R401,
46_floating_point.md R412, 46_floating_point.md R413, 46_floating_point.md R444, 46_floating_point.md R445,
46_floating_point.md R454, 46_floating_point.md R455) -/
def Obligations.FpSumProduct : Prop :=
  ∀ (s : State) (fd fs ft : FReg),
    let single (op : Config.FpArith) : Config.NumericsRecord → Word :=
      fun r => r.arithSingle op (s.getFpr fs) (s.getFpr ft)
    let double (op : Config.FpArith) : Config.NumericsRecord → DWord :=
      fun r => r.arithDouble op (s.getDouble fs) (s.getDouble ft)
    s.numericSingle (.addS fd fs ft) fd (singleFormat.deliversSum (s.single fs) (s.single ft)) (single .add) ∧
      s.numericSingle (.subS fd fs ft) fd (singleFormat.deliversSum (s.single fs) (s.single ft).negated) (single .sub) ∧
      s.numericSingle (.mulS fd fs ft) fd (singleFormat.deliversProduct (s.single fs) (s.single ft)) (single .mul) ∧
      (fd.getLsbD 0 = false → fs.getLsbD 0 = false → ft.getLsbD 0 = false →
        s.numericDouble (.addD fd fs ft) fd (doubleFormat.deliversSum (s.double fs) (s.double ft)) (double .add) ∧
          s.numericDouble (.subD fd fs ft) fd (doubleFormat.deliversSum (s.double fs) (s.double ft).negated)
            (double .sub) ∧
          s.numericDouble (.mulD fd fs ft) fd (doubleFormat.deliversProduct (s.double fs) (s.double ft)) (double .mul))

/-- O53. With FP_NUMERICS = IEEE 754, for all operands (doubles in even registers): finite operands with a divisor
that is not 0 give the exact quotient rounded to nearest, ties to even; a finite non-zero number over 0 gives
infinity with the XOR of the signs; 0 / 0, infinity / infinity and NaN operands give some NaN. Nothing but the
destination changes. Under any other FP_NUMERICS the destination gets what the function of that record gives for
the bits of the operands. That this parameter is IEEE 754 or one arbitrary record is the model's choice (log
14). (46_floating_point.md R402, 46_floating_point.md R428, 46_floating_point.md R429) -/
def Obligations.FpQuotient : Prop :=
  ∀ (s : State) (fd fs ft : FReg),
    s.numericSingle (.divS fd fs ft) fd (singleFormat.deliversQuotient (s.single fs) (s.single ft))
        (fun r => r.arithSingle .div (s.getFpr fs) (s.getFpr ft)) ∧
      (fd.getLsbD 0 = false → fs.getLsbD 0 = false → ft.getLsbD 0 = false →
        s.numericDouble (.divD fd fs ft) fd (doubleFormat.deliversQuotient (s.double fs) (s.double ft))
          fun r => r.arithDouble .div (s.getDouble fs) (s.getDouble ft))

/-- O54. With FP_NUMERICS = IEEE 754, for all operands (doubles in even registers): a positive finite operand gives
its real square root rounded to nearest, ties to even; zeros keep their sign; +infinity gives +infinity; a
negative non-zero operand or a NaN gives some NaN. Nothing but the destination changes. Under any other
FP_NUMERICS the destination gets what the function of that record gives for the bits of the operands. That this
parameter is IEEE 754 or one arbitrary record is the model's choice (log 14). (46_floating_point.md R402,
46_floating_point.md R450, 46_floating_point.md R451) -/
def Obligations.FpRoot : Prop :=
  ∀ (s : State) (fd fs : FReg),
    s.numericSingle (.sqrtS fd fs) fd (singleFormat.deliversRoot (s.single fs)) (fun r => r.sqrtSingle (s.getFpr fs)) ∧
      (fd.getLsbD 0 = false → fs.getLsbD 0 = false →
        s.numericDouble (.sqrtD fd fs) fd (doubleFormat.deliversRoot (s.double fs))
          fun r => r.sqrtDouble (s.getDouble fs))

/-- O55. With FP_NUMERICS = IEEE 754: cvt.s.d and cvt.s.w deliver the double or the integer rounded to the nearest
single, ties to even; cvt.d.s and cvt.d.w deliver the value exactly (a finite result unpacks to the same
number); infinities convert to infinities and a NaN to some NaN. Doubles in even registers. Nothing but the
destination changes. Under any other FP_NUMERICS the destination gets what the function of that record gives for
the bits of the operands. That this parameter is IEEE 754 or one arbitrary record is the model's choice (log
14). (46_floating_point.md R422, 46_floating_point.md R423, 46_floating_point.md R424, 46_floating_point.md
R425, 46_floating_point.md R402) -/
def Obligations.FpConversions : Prop :=
  ∀ (s : State) (fd fs : FReg),
    s.numericSingle (.cvtSW fd fs) fd (singleFormat.roundsTo (((s.getFpr fs).toInt : ℚ) : ℝ) false)
        (fun r => r.wordToSingle (s.getFpr fs)) ∧
      (fs.getLsbD 0 = false →
        s.numericSingle (.cvtSD fd fs) fd (singleFormat.deliversConversion (s.double fs))
          fun r => r.doubleToSingle (s.getDouble fs)) ∧
      (fd.getLsbD 0 = false →
        s.numericDouble (.cvtDS fd fs) fd
            (fun v => doubleFormat.deliversConversion (s.single fs) v ∧
              (doubleFormat.unpack v).extended = (s.single fs).extended)
            (fun r => r.singleToDouble (s.getFpr fs)) ∧
          s.numericDouble (.cvtDW fd fs) fd
            (fun v => (doubleFormat.unpack v).extended =
              some (((((s.getFpr fs).toInt : ℚ) : WithTop ℚ)) : WithBot (WithTop ℚ)))
            fun r => r.wordToDouble (s.getFpr fs))

/-- O56. With FP_NUMERICS = IEEE 754, a finite operand whose value rounded in the direction of the instruction fits
a signed word gives that integer; for any other operand the instruction completes too and nothing is said of the
word. Double operands in even registers, any destination. Nothing but the destination changes. Under any other
FP_NUMERICS the destination gets what the function of that record gives for the bits of the operands. That this
parameter is IEEE 754 or one arbitrary record is the model's choice (log 14). (46_floating_point.md R404,
46_floating_point.md R414, 46_floating_point.md R415, 46_floating_point.md R426, 46_floating_point.md R427,
46_floating_point.md R430, 46_floating_point.md R431, 46_floating_point.md R448, 46_floating_point.md R449,
46_floating_point.md R456, 46_floating_point.md R457) -/
def Obligations.FpToWord : Prop :=
  ∀ (s : State) (fd fs : FReg),
    let single (c : Config.WordConversion) : Config.NumericsRecord → Word := fun r => r.singleToWord c (s.getFpr fs)
    let double (c : Config.WordConversion) : Config.NumericsRecord → Word := fun r => r.doubleToWord c (s.getDouble fs)
    s.numericSingle (.ceilWS fd fs) fd ((s.single fs).convertsTo .towardPositive) (single .ceil) ∧
      s.numericSingle (.floorWS fd fs) fd ((s.single fs).convertsTo .towardNegative) (single .floor) ∧
      s.numericSingle (.truncWS fd fs) fd ((s.single fs).convertsTo .towardZero) (single .trunc) ∧
      s.numericSingle (.roundWS fd fs) fd ((s.single fs).convertsTo .nearestEven) (single .round) ∧
      s.numericSingle (.cvtWS fd fs) fd ((s.single fs).convertsTo .nearestEven) (single .cvt) ∧
      (fs.getLsbD 0 = false →
        s.numericSingle (.ceilWD fd fs) fd ((s.double fs).convertsTo .towardPositive) (double .ceil) ∧
          s.numericSingle (.floorWD fd fs) fd ((s.double fs).convertsTo .towardNegative) (double .floor) ∧
          s.numericSingle (.truncWD fd fs) fd ((s.double fs).convertsTo .towardZero) (double .trunc) ∧
          s.numericSingle (.roundWD fd fs) fd ((s.double fs).convertsTo .nearestEven) (double .round) ∧
          s.numericSingle (.cvtWD fd fs) fd ((s.double fs).convertsTo .nearestEven) (double .cvt))

/-- O57. fcc[cc] becomes 1 exactly when the numbers of fs and ft, infinities included, are equal, less, or less or
equal; with a NaN operand it becomes 0. No other flag and nothing else changes. Doubles in even registers.
(46_floating_point.md R405, 46_floating_point.md R416, 46_floating_point.md R417, 46_floating_point.md R418,
46_floating_point.md R419, 46_floating_point.md R420, 46_floating_point.md R421) -/
def Obligations.FpCompares : Prop :=
  ∀ (s : State) (cc : CondFlag) (fs ft : FReg),
    s.setsFlag (.cEqS cc fs ft) cc ((s.single fs).equal (s.single ft)) ∧
      s.setsFlag (.cLtS cc fs ft) cc ((s.single fs).less (s.single ft)) ∧
      s.setsFlag (.cLeS cc fs ft) cc ((s.single fs).less (s.single ft) ∨ (s.single fs).equal (s.single ft)) ∧
      (fs.getLsbD 0 = false → ft.getLsbD 0 = false →
        s.setsFlag (.cEqD cc fs ft) cc ((s.double fs).equal (s.double ft)) ∧
          s.setsFlag (.cLtD cc fs ft) cc ((s.double fs).less (s.double ft)) ∧
          s.setsFlag (.cLeD cc fs ft) cc ((s.double fs).less (s.double ft) ∨ (s.double fs).equal (s.double ft)))

/-- O58. The word 0x42000018 is eret. Outside a delay slot it sets Status.EXL to 0 and keeps every other bit of
Status, sets LLbit to 0, makes pc EPC, npc EPC + 4 and leaves no delay slot; nothing else changes. In a delay
slot it is refused by name. If EPC is no multiple of 4, the next step, if it takes no interrupt, raises
AddressErrorLoad(EPC). (R480) -/
def Obligations.EretReturns : Prop :=
  (∀ p, decode p 0x42000018#32 = .ok .eret) ∧
    ∀ s : State,
      (s.inDelaySlot = true → exec .eret s = .refused .controlTransferInDelaySlot) ∧
        (s.inDelaySlot = false →
          ∃ t, exec .eret s = .next t ∧ statusEXL t.status = false ∧
            (∀ k, k ≠ 1 → t.status.getLsbD k = s.status.getLsbD k) ∧ t.llBit = false ∧ t.pc = s.epc ∧
            t.npc = s.epc + 4#32 ∧ t.inDelaySlot = false ∧ t.llAddr = s.llAddr ∧ t.cause = s.cause ∧ t.epc = s.epc ∧
            t.badVAddr = s.badVAddr ∧ s.sameGprs t ∧ s.sameAcc t ∧ s.sameFprs t ∧ s.sameFccs t ∧ s.sameMemory t ∧
            s.sameWorld t ∧ t.draws = s.draws ∧
            (s.epc.toNat % 4 ≠ 0 → t.sampleInputs.interruptPending = false →
              ∃ u, step t = .next u ∧ t.sampleInputs.trapEntered u 4 (some s.epc)))

/-- O59. The words 0x0000000C and 0 are syscall and nop; break with a code has the code in bits 25:6 over 0x0D. With
SYSCALL_MODE = trap, syscall takes the exception with code 8; with host it goes on with only general registers,
floating-point registers and memory perhaps changed, or ends the run. That a service leaves LLbit alone, even
when it writes to the block of the reservation, is the model's choice (log 18). break takes the exception with
code 9 whatever its code, but break 1 ends the run. nop changes nothing but control.
(47_exception_instructions.md R481, 47_exception_instructions.md R482, 47_exception_instructions.md R483) -/
def Obligations.SyscallBreakNop : Prop :=
  (∀ p, decode p 0x0000000C#32 = .ok .syscall ∧ decode p 0#32 = .ok .nop) ∧
    (∀ p (code : Code20), decode p (BitVec.ofNat 32 (code.toNat * 64 + 0x0D)) = .ok (.brk code)) ∧
    ∀ (s : State) (code : Code20),
      (s.params.syscallMode = .trap → s.traps .syscall 8 none) ∧
        (s.params.syscallMode = .host →
          (∃ t, exec .syscall s = .next t ∧ s.sameAcc t ∧ s.sameCop0 t ∧ s.sameFccs t ∧ s.sameReservation t ∧
            s.sameWorld t ∧ s.goesOn t) ∨ exec .syscall s = .fault .hostEndedRun) ∧
        (code ≠ 1#20 → s.traps (.brk code) 9 none) ∧ exec (.brk 1#20) s = .fault .debuggerBreak ∧
        ∃ t, exec .nop s = .next t ∧ s.onlyWentOn t

/-- O60. With SYSCALL_MODE = trap: after syscall and then eret, control is at the syscall, or at the branch before
it if it was in a delay slot, when EXL was 0, and at the old EPC when EXL was 1 (a nested exception keeps EPC
and BD); Status is the old one with EXL 0; LLbit is 0; registers, hi, lo, flags and memory are as before.
(60_exceptions.md R506, 60_exceptions.md R508, 60_exceptions.md R509, 47_exception_instructions.md R480,
47_exception_instructions.md R481) -/
def Obligations.TrapAndReturn : Prop :=
  ∀ s : State, s.params.syscallMode = .trap →
    ∃ t u, exec .syscall s = .next t ∧ exec .eret t = .next u ∧
      (statusEXL s.status = false → u.pc = (if s.inDelaySlot then s.pc - 4#32 else s.pc) ∧ u.status = s.status) ∧
      (statusEXL s.status = true → u.pc = s.epc ∧ causeBD u.cause = causeBD s.cause) ∧
      statusEXL u.status = false ∧ (∀ k, k ≠ 1 → u.status.getLsbD k = s.status.getLsbD k) ∧
      u.npc = u.pc + 4#32 ∧ u.inDelaySlot = false ∧ u.llBit = false ∧ s.sameGprs u ∧ s.sameAcc u ∧ s.sameFprs u ∧
      s.sameFccs u ∧ s.sameMemory u
end

