-- ==== Sys2Proof/Laws/State.lean ====
section
/-!
SUPPORT. What each update of the state does to each field and each accessor, one lemma for each pair, so that no proof
unfolds a record update.
-/

namespace Sys2Proof.Machine

/-! ## setGpr -/

@[simp] theorem State.setGpr_gpr (s : State) (i : Reg) (v : Word) :
    (s.setGpr i v).gpr = if i = 0#5 then s.gpr else s.gpr.set i.toNat v i.isLt := rfl
@[simp] theorem State.setGpr_pc (s : State) (i : Reg) (v : Word) : (s.setGpr i v).pc = s.pc := rfl
@[simp] theorem State.setGpr_npc (s : State) (i : Reg) (v : Word) : (s.setGpr i v).npc = s.npc := rfl
@[simp] theorem State.setGpr_inDelaySlot (s : State) (i : Reg) (v : Word) : (s.setGpr i v).inDelaySlot = s.inDelaySlot := rfl
@[simp] theorem State.setGpr_hi (s : State) (i : Reg) (v : Word) : (s.setGpr i v).hi = s.hi := rfl
@[simp] theorem State.setGpr_lo (s : State) (i : Reg) (v : Word) : (s.setGpr i v).lo = s.lo := rfl
@[simp] theorem State.setGpr_status (s : State) (i : Reg) (v : Word) : (s.setGpr i v).status = s.status := rfl
@[simp] theorem State.setGpr_cause (s : State) (i : Reg) (v : Word) : (s.setGpr i v).cause = s.cause := rfl
@[simp] theorem State.setGpr_epc (s : State) (i : Reg) (v : Word) : (s.setGpr i v).epc = s.epc := rfl
@[simp] theorem State.setGpr_badVAddr (s : State) (i : Reg) (v : Word) : (s.setGpr i v).badVAddr = s.badVAddr := rfl
@[simp] theorem State.setGpr_fpr (s : State) (i : Reg) (v : Word) : (s.setGpr i v).fpr = s.fpr := rfl
@[simp] theorem State.setGpr_fcc (s : State) (i : Reg) (v : Word) : (s.setGpr i v).fcc = s.fcc := rfl
@[simp] theorem State.setGpr_llBit (s : State) (i : Reg) (v : Word) : (s.setGpr i v).llBit = s.llBit := rfl
@[simp] theorem State.setGpr_llAddr (s : State) (i : Reg) (v : Word) : (s.setGpr i v).llAddr = s.llAddr := rfl
@[simp] theorem State.setGpr_mem (s : State) (i : Reg) (v : Word) : (s.setGpr i v).mem = s.mem := rfl
@[simp] theorem State.setGpr_params (s : State) (i : Reg) (v : Word) : (s.setGpr i v).params = s.params := rfl
@[simp] theorem State.setGpr_inputs (s : State) (i : Reg) (v : Word) : (s.setGpr i v).inputs = s.inputs := rfl
@[simp] theorem State.setGpr_draws (s : State) (i : Reg) (v : Word) : (s.setGpr i v).draws = s.draws := rfl
@[simp] theorem State.setGpr_getFpr (s : State) (i : Reg) (v : Word) (j : FReg) : (s.setGpr i v).getFpr j = s.getFpr j := rfl
@[simp] theorem State.setGpr_getFcc (s : State) (i : Reg) (v : Word) (c : CondFlag) : (s.setGpr i v).getFcc c = s.getFcc c := rfl
@[simp] theorem State.setGpr_readByte (s : State) (i : Reg) (v : Word) (a : Word) : (s.setGpr i v).readByte a = s.readByte a := rfl
@[simp] theorem State.setGpr_getDouble (s : State) (i : Reg) (v : Word) (j : FReg) : (s.setGpr i v).getDouble j = s.getDouble j := rfl
@[simp] theorem State.setGpr_acc (s : State) (i : Reg) (v : Word) : (s.setGpr i v).acc = s.acc := rfl

/-! ## setFpr -/

@[simp] theorem State.setFpr_gpr (s : State) (i : FReg) (v : Word) : (s.setFpr i v).gpr = s.gpr := rfl
@[simp] theorem State.setFpr_pc (s : State) (i : FReg) (v : Word) : (s.setFpr i v).pc = s.pc := rfl
@[simp] theorem State.setFpr_npc (s : State) (i : FReg) (v : Word) : (s.setFpr i v).npc = s.npc := rfl
@[simp] theorem State.setFpr_inDelaySlot (s : State) (i : FReg) (v : Word) : (s.setFpr i v).inDelaySlot = s.inDelaySlot := rfl
@[simp] theorem State.setFpr_hi (s : State) (i : FReg) (v : Word) : (s.setFpr i v).hi = s.hi := rfl
@[simp] theorem State.setFpr_lo (s : State) (i : FReg) (v : Word) : (s.setFpr i v).lo = s.lo := rfl
@[simp] theorem State.setFpr_status (s : State) (i : FReg) (v : Word) : (s.setFpr i v).status = s.status := rfl
@[simp] theorem State.setFpr_cause (s : State) (i : FReg) (v : Word) : (s.setFpr i v).cause = s.cause := rfl
@[simp] theorem State.setFpr_epc (s : State) (i : FReg) (v : Word) : (s.setFpr i v).epc = s.epc := rfl
@[simp] theorem State.setFpr_badVAddr (s : State) (i : FReg) (v : Word) : (s.setFpr i v).badVAddr = s.badVAddr := rfl
@[simp] theorem State.setFpr_fpr (s : State) (i : FReg) (v : Word) :
    (s.setFpr i v).fpr = s.fpr.set i.toNat v i.isLt := rfl
@[simp] theorem State.setFpr_fcc (s : State) (i : FReg) (v : Word) : (s.setFpr i v).fcc = s.fcc := rfl
@[simp] theorem State.setFpr_llBit (s : State) (i : FReg) (v : Word) : (s.setFpr i v).llBit = s.llBit := rfl
@[simp] theorem State.setFpr_llAddr (s : State) (i : FReg) (v : Word) : (s.setFpr i v).llAddr = s.llAddr := rfl
@[simp] theorem State.setFpr_mem (s : State) (i : FReg) (v : Word) : (s.setFpr i v).mem = s.mem := rfl
@[simp] theorem State.setFpr_params (s : State) (i : FReg) (v : Word) : (s.setFpr i v).params = s.params := rfl
@[simp] theorem State.setFpr_inputs (s : State) (i : FReg) (v : Word) : (s.setFpr i v).inputs = s.inputs := rfl
@[simp] theorem State.setFpr_draws (s : State) (i : FReg) (v : Word) : (s.setFpr i v).draws = s.draws := rfl
@[simp] theorem State.setFpr_getGpr (s : State) (i : FReg) (v : Word) (r : Reg) : (s.setFpr i v).getGpr r = s.getGpr r := rfl
@[simp] theorem State.setFpr_getFcc (s : State) (i : FReg) (v : Word) (c : CondFlag) : (s.setFpr i v).getFcc c = s.getFcc c := rfl
@[simp] theorem State.setFpr_readByte (s : State) (i : FReg) (v : Word) (a : Word) : (s.setFpr i v).readByte a = s.readByte a := rfl
@[simp] theorem State.setFpr_acc (s : State) (i : FReg) (v : Word) : (s.setFpr i v).acc = s.acc := rfl

/-! ## setDouble -/

@[simp] theorem State.setDouble_gpr (s : State) (i : FReg) (v : DWord) : (s.setDouble i v).gpr = s.gpr := rfl
@[simp] theorem State.setDouble_pc (s : State) (i : FReg) (v : DWord) : (s.setDouble i v).pc = s.pc := rfl
@[simp] theorem State.setDouble_npc (s : State) (i : FReg) (v : DWord) : (s.setDouble i v).npc = s.npc := rfl
@[simp] theorem State.setDouble_inDelaySlot (s : State) (i : FReg) (v : DWord) : (s.setDouble i v).inDelaySlot = s.inDelaySlot := rfl
@[simp] theorem State.setDouble_hi (s : State) (i : FReg) (v : DWord) : (s.setDouble i v).hi = s.hi := rfl
@[simp] theorem State.setDouble_lo (s : State) (i : FReg) (v : DWord) : (s.setDouble i v).lo = s.lo := rfl
@[simp] theorem State.setDouble_status (s : State) (i : FReg) (v : DWord) : (s.setDouble i v).status = s.status := rfl
@[simp] theorem State.setDouble_cause (s : State) (i : FReg) (v : DWord) : (s.setDouble i v).cause = s.cause := rfl
@[simp] theorem State.setDouble_epc (s : State) (i : FReg) (v : DWord) : (s.setDouble i v).epc = s.epc := rfl
@[simp] theorem State.setDouble_badVAddr (s : State) (i : FReg) (v : DWord) : (s.setDouble i v).badVAddr = s.badVAddr := rfl
@[simp] theorem State.setDouble_fcc (s : State) (i : FReg) (v : DWord) : (s.setDouble i v).fcc = s.fcc := rfl
@[simp] theorem State.setDouble_llBit (s : State) (i : FReg) (v : DWord) : (s.setDouble i v).llBit = s.llBit := rfl
@[simp] theorem State.setDouble_llAddr (s : State) (i : FReg) (v : DWord) : (s.setDouble i v).llAddr = s.llAddr := rfl
@[simp] theorem State.setDouble_mem (s : State) (i : FReg) (v : DWord) : (s.setDouble i v).mem = s.mem := rfl
@[simp] theorem State.setDouble_params (s : State) (i : FReg) (v : DWord) : (s.setDouble i v).params = s.params := rfl
@[simp] theorem State.setDouble_inputs (s : State) (i : FReg) (v : DWord) : (s.setDouble i v).inputs = s.inputs := rfl
@[simp] theorem State.setDouble_draws (s : State) (i : FReg) (v : DWord) : (s.setDouble i v).draws = s.draws := rfl
@[simp] theorem State.setDouble_getGpr (s : State) (i : FReg) (v : DWord) (r : Reg) : (s.setDouble i v).getGpr r = s.getGpr r := rfl
@[simp] theorem State.setDouble_getFcc (s : State) (i : FReg) (v : DWord) (c : CondFlag) : (s.setDouble i v).getFcc c = s.getFcc c := rfl
@[simp] theorem State.setDouble_readByte (s : State) (i : FReg) (v : DWord) (a : Word) : (s.setDouble i v).readByte a = s.readByte a := rfl
@[simp] theorem State.setDouble_acc (s : State) (i : FReg) (v : DWord) : (s.setDouble i v).acc = s.acc := rfl

/-! ## setFcc -/

@[simp] theorem State.setFcc_gpr (s : State) (i : CondFlag) (v : Bool) : (s.setFcc i v).gpr = s.gpr := rfl
@[simp] theorem State.setFcc_pc (s : State) (i : CondFlag) (v : Bool) : (s.setFcc i v).pc = s.pc := rfl
@[simp] theorem State.setFcc_npc (s : State) (i : CondFlag) (v : Bool) : (s.setFcc i v).npc = s.npc := rfl
@[simp] theorem State.setFcc_inDelaySlot (s : State) (i : CondFlag) (v : Bool) : (s.setFcc i v).inDelaySlot = s.inDelaySlot := rfl
@[simp] theorem State.setFcc_hi (s : State) (i : CondFlag) (v : Bool) : (s.setFcc i v).hi = s.hi := rfl
@[simp] theorem State.setFcc_lo (s : State) (i : CondFlag) (v : Bool) : (s.setFcc i v).lo = s.lo := rfl
@[simp] theorem State.setFcc_status (s : State) (i : CondFlag) (v : Bool) : (s.setFcc i v).status = s.status := rfl
@[simp] theorem State.setFcc_cause (s : State) (i : CondFlag) (v : Bool) : (s.setFcc i v).cause = s.cause := rfl
@[simp] theorem State.setFcc_epc (s : State) (i : CondFlag) (v : Bool) : (s.setFcc i v).epc = s.epc := rfl
@[simp] theorem State.setFcc_badVAddr (s : State) (i : CondFlag) (v : Bool) : (s.setFcc i v).badVAddr = s.badVAddr := rfl
@[simp] theorem State.setFcc_fpr (s : State) (i : CondFlag) (v : Bool) : (s.setFcc i v).fpr = s.fpr := rfl
@[simp] theorem State.setFcc_fcc (s : State) (i : CondFlag) (v : Bool) :
    (s.setFcc i v).fcc = s.fcc.set i.toNat v i.isLt := rfl
@[simp] theorem State.setFcc_llBit (s : State) (i : CondFlag) (v : Bool) : (s.setFcc i v).llBit = s.llBit := rfl
@[simp] theorem State.setFcc_llAddr (s : State) (i : CondFlag) (v : Bool) : (s.setFcc i v).llAddr = s.llAddr := rfl
@[simp] theorem State.setFcc_mem (s : State) (i : CondFlag) (v : Bool) : (s.setFcc i v).mem = s.mem := rfl
@[simp] theorem State.setFcc_params (s : State) (i : CondFlag) (v : Bool) : (s.setFcc i v).params = s.params := rfl
@[simp] theorem State.setFcc_inputs (s : State) (i : CondFlag) (v : Bool) : (s.setFcc i v).inputs = s.inputs := rfl
@[simp] theorem State.setFcc_draws (s : State) (i : CondFlag) (v : Bool) : (s.setFcc i v).draws = s.draws := rfl
@[simp] theorem State.setFcc_getGpr (s : State) (i : CondFlag) (v : Bool) (r : Reg) : (s.setFcc i v).getGpr r = s.getGpr r := rfl
@[simp] theorem State.setFcc_getFpr (s : State) (i : CondFlag) (v : Bool) (j : FReg) : (s.setFcc i v).getFpr j = s.getFpr j := rfl
@[simp] theorem State.setFcc_readByte (s : State) (i : CondFlag) (v : Bool) (a : Word) : (s.setFcc i v).readByte a = s.readByte a := rfl
@[simp] theorem State.setFcc_getDouble (s : State) (i : CondFlag) (v : Bool) (j : FReg) : (s.setFcc i v).getDouble j = s.getDouble j := rfl
@[simp] theorem State.setFcc_acc (s : State) (i : CondFlag) (v : Bool) : (s.setFcc i v).acc = s.acc := rfl

/-! ## setAcc -/

@[simp] theorem State.setAcc_gpr (s : State) (v : DWord) : (s.setAcc v).gpr = s.gpr := rfl
@[simp] theorem State.setAcc_pc (s : State) (v : DWord) : (s.setAcc v).pc = s.pc := rfl
@[simp] theorem State.setAcc_npc (s : State) (v : DWord) : (s.setAcc v).npc = s.npc := rfl
@[simp] theorem State.setAcc_inDelaySlot (s : State) (v : DWord) : (s.setAcc v).inDelaySlot = s.inDelaySlot := rfl
@[simp] theorem State.setAcc_hi (s : State) (v : DWord) :
    (s.setAcc v).hi = highWord v := rfl
@[simp] theorem State.setAcc_lo (s : State) (v : DWord) :
    (s.setAcc v).lo = lowWord v := rfl
@[simp] theorem State.setAcc_status (s : State) (v : DWord) : (s.setAcc v).status = s.status := rfl
@[simp] theorem State.setAcc_cause (s : State) (v : DWord) : (s.setAcc v).cause = s.cause := rfl
@[simp] theorem State.setAcc_epc (s : State) (v : DWord) : (s.setAcc v).epc = s.epc := rfl
@[simp] theorem State.setAcc_badVAddr (s : State) (v : DWord) : (s.setAcc v).badVAddr = s.badVAddr := rfl
@[simp] theorem State.setAcc_fpr (s : State) (v : DWord) : (s.setAcc v).fpr = s.fpr := rfl
@[simp] theorem State.setAcc_fcc (s : State) (v : DWord) : (s.setAcc v).fcc = s.fcc := rfl
@[simp] theorem State.setAcc_llBit (s : State) (v : DWord) : (s.setAcc v).llBit = s.llBit := rfl
@[simp] theorem State.setAcc_llAddr (s : State) (v : DWord) : (s.setAcc v).llAddr = s.llAddr := rfl
@[simp] theorem State.setAcc_mem (s : State) (v : DWord) : (s.setAcc v).mem = s.mem := rfl
@[simp] theorem State.setAcc_params (s : State) (v : DWord) : (s.setAcc v).params = s.params := rfl
@[simp] theorem State.setAcc_inputs (s : State) (v : DWord) : (s.setAcc v).inputs = s.inputs := rfl
@[simp] theorem State.setAcc_draws (s : State) (v : DWord) : (s.setAcc v).draws = s.draws := rfl
@[simp] theorem State.setAcc_getGpr (s : State) (v : DWord) (r : Reg) : (s.setAcc v).getGpr r = s.getGpr r := rfl
@[simp] theorem State.setAcc_getFpr (s : State) (v : DWord) (j : FReg) : (s.setAcc v).getFpr j = s.getFpr j := rfl
@[simp] theorem State.setAcc_getFcc (s : State) (v : DWord) (c : CondFlag) : (s.setAcc v).getFcc c = s.getFcc c := rfl
@[simp] theorem State.setAcc_readByte (s : State) (v : DWord) (a : Word) : (s.setAcc v).readByte a = s.readByte a := rfl
@[simp] theorem State.setAcc_getDouble (s : State) (v : DWord) (j : FReg) : (s.setAcc v).getDouble j = s.getDouble j := rfl

/-! ## advance -/

@[simp] theorem State.advance_gpr (s : State) : (s.advance).gpr = s.gpr := rfl
@[simp] theorem State.advance_pc (s : State) :
    (s.advance).pc = s.npc := rfl
@[simp] theorem State.advance_npc (s : State) :
    (s.advance).npc = s.npc + 4#32 := rfl
@[simp] theorem State.advance_inDelaySlot (s : State) :
    (s.advance).inDelaySlot = false := rfl
@[simp] theorem State.advance_hi (s : State) : (s.advance).hi = s.hi := rfl
@[simp] theorem State.advance_lo (s : State) : (s.advance).lo = s.lo := rfl
@[simp] theorem State.advance_status (s : State) : (s.advance).status = s.status := rfl
@[simp] theorem State.advance_cause (s : State) : (s.advance).cause = s.cause := rfl
@[simp] theorem State.advance_epc (s : State) : (s.advance).epc = s.epc := rfl
@[simp] theorem State.advance_badVAddr (s : State) : (s.advance).badVAddr = s.badVAddr := rfl
@[simp] theorem State.advance_fpr (s : State) : (s.advance).fpr = s.fpr := rfl
@[simp] theorem State.advance_fcc (s : State) : (s.advance).fcc = s.fcc := rfl
@[simp] theorem State.advance_llBit (s : State) : (s.advance).llBit = s.llBit := rfl
@[simp] theorem State.advance_llAddr (s : State) : (s.advance).llAddr = s.llAddr := rfl
@[simp] theorem State.advance_mem (s : State) : (s.advance).mem = s.mem := rfl
@[simp] theorem State.advance_params (s : State) : (s.advance).params = s.params := rfl
@[simp] theorem State.advance_inputs (s : State) : (s.advance).inputs = s.inputs := rfl
@[simp] theorem State.advance_draws (s : State) : (s.advance).draws = s.draws := rfl
@[simp] theorem State.advance_getGpr (s : State) (r : Reg) : (s.advance).getGpr r = s.getGpr r := rfl
@[simp] theorem State.advance_getFpr (s : State) (j : FReg) : (s.advance).getFpr j = s.getFpr j := rfl
@[simp] theorem State.advance_getFcc (s : State) (c : CondFlag) : (s.advance).getFcc c = s.getFcc c := rfl
@[simp] theorem State.advance_readByte (s : State) (a : Word) : (s.advance).readByte a = s.readByte a := rfl
@[simp] theorem State.advance_getDouble (s : State) (j : FReg) : (s.advance).getDouble j = s.getDouble j := rfl
@[simp] theorem State.advance_acc (s : State) : (s.advance).acc = s.acc := rfl

/-! ## transferTo -/

@[simp] theorem State.transferTo_gpr (s : State) (target : Word) : (s.transferTo target).gpr = s.gpr := rfl
@[simp] theorem State.transferTo_pc (s : State) (target : Word) :
    (s.transferTo target).pc = if s.params.delayedBranches then s.npc else target := rfl
@[simp] theorem State.transferTo_npc (s : State) (target : Word) :
    (s.transferTo target).npc = if s.params.delayedBranches then target else target + 4#32 := rfl
@[simp] theorem State.transferTo_inDelaySlot (s : State) (target : Word) :
    (s.transferTo target).inDelaySlot = s.params.delayedBranches := rfl
@[simp] theorem State.transferTo_hi (s : State) (target : Word) : (s.transferTo target).hi = s.hi := rfl
@[simp] theorem State.transferTo_lo (s : State) (target : Word) : (s.transferTo target).lo = s.lo := rfl
@[simp] theorem State.transferTo_status (s : State) (target : Word) : (s.transferTo target).status = s.status := rfl
@[simp] theorem State.transferTo_cause (s : State) (target : Word) : (s.transferTo target).cause = s.cause := rfl
@[simp] theorem State.transferTo_epc (s : State) (target : Word) : (s.transferTo target).epc = s.epc := rfl
@[simp] theorem State.transferTo_badVAddr (s : State) (target : Word) : (s.transferTo target).badVAddr = s.badVAddr := rfl
@[simp] theorem State.transferTo_fpr (s : State) (target : Word) : (s.transferTo target).fpr = s.fpr := rfl
@[simp] theorem State.transferTo_fcc (s : State) (target : Word) : (s.transferTo target).fcc = s.fcc := rfl
@[simp] theorem State.transferTo_llBit (s : State) (target : Word) : (s.transferTo target).llBit = s.llBit := rfl
@[simp] theorem State.transferTo_llAddr (s : State) (target : Word) : (s.transferTo target).llAddr = s.llAddr := rfl
@[simp] theorem State.transferTo_mem (s : State) (target : Word) : (s.transferTo target).mem = s.mem := rfl
@[simp] theorem State.transferTo_params (s : State) (target : Word) : (s.transferTo target).params = s.params := rfl
@[simp] theorem State.transferTo_inputs (s : State) (target : Word) : (s.transferTo target).inputs = s.inputs := rfl
@[simp] theorem State.transferTo_draws (s : State) (target : Word) : (s.transferTo target).draws = s.draws := rfl
@[simp] theorem State.transferTo_getGpr (s : State) (target : Word) (r : Reg) : (s.transferTo target).getGpr r = s.getGpr r := rfl
@[simp] theorem State.transferTo_getFpr (s : State) (target : Word) (j : FReg) : (s.transferTo target).getFpr j = s.getFpr j := rfl
@[simp] theorem State.transferTo_getFcc (s : State) (target : Word) (c : CondFlag) : (s.transferTo target).getFcc c = s.getFcc c := rfl
@[simp] theorem State.transferTo_readByte (s : State) (target : Word) (a : Word) : (s.transferTo target).readByte a = s.readByte a := rfl
@[simp] theorem State.transferTo_getDouble (s : State) (target : Word) (j : FReg) : (s.transferTo target).getDouble j = s.getDouble j := rfl
@[simp] theorem State.transferTo_acc (s : State) (target : Word) : (s.transferTo target).acc = s.acc := rfl

/-! ## branchNotTaken -/

@[simp] theorem State.branchNotTaken_gpr (s : State) : (s.branchNotTaken).gpr = s.gpr := rfl
@[simp] theorem State.branchNotTaken_pc (s : State) :
    (s.branchNotTaken).pc = s.npc := rfl
@[simp] theorem State.branchNotTaken_npc (s : State) :
    (s.branchNotTaken).npc = s.npc + 4#32 := rfl
@[simp] theorem State.branchNotTaken_inDelaySlot (s : State) :
    (s.branchNotTaken).inDelaySlot = s.params.delayedBranches := rfl
@[simp] theorem State.branchNotTaken_hi (s : State) : (s.branchNotTaken).hi = s.hi := rfl
@[simp] theorem State.branchNotTaken_lo (s : State) : (s.branchNotTaken).lo = s.lo := rfl
@[simp] theorem State.branchNotTaken_status (s : State) : (s.branchNotTaken).status = s.status := rfl
@[simp] theorem State.branchNotTaken_cause (s : State) : (s.branchNotTaken).cause = s.cause := rfl
@[simp] theorem State.branchNotTaken_epc (s : State) : (s.branchNotTaken).epc = s.epc := rfl
@[simp] theorem State.branchNotTaken_badVAddr (s : State) : (s.branchNotTaken).badVAddr = s.badVAddr := rfl
@[simp] theorem State.branchNotTaken_fpr (s : State) : (s.branchNotTaken).fpr = s.fpr := rfl
@[simp] theorem State.branchNotTaken_fcc (s : State) : (s.branchNotTaken).fcc = s.fcc := rfl
@[simp] theorem State.branchNotTaken_llBit (s : State) : (s.branchNotTaken).llBit = s.llBit := rfl
@[simp] theorem State.branchNotTaken_llAddr (s : State) : (s.branchNotTaken).llAddr = s.llAddr := rfl
@[simp] theorem State.branchNotTaken_mem (s : State) : (s.branchNotTaken).mem = s.mem := rfl
@[simp] theorem State.branchNotTaken_params (s : State) : (s.branchNotTaken).params = s.params := rfl
@[simp] theorem State.branchNotTaken_inputs (s : State) : (s.branchNotTaken).inputs = s.inputs := rfl
@[simp] theorem State.branchNotTaken_draws (s : State) : (s.branchNotTaken).draws = s.draws := rfl
@[simp] theorem State.branchNotTaken_getGpr (s : State) (r : Reg) : (s.branchNotTaken).getGpr r = s.getGpr r := rfl
@[simp] theorem State.branchNotTaken_getFpr (s : State) (j : FReg) : (s.branchNotTaken).getFpr j = s.getFpr j := rfl
@[simp] theorem State.branchNotTaken_getFcc (s : State) (c : CondFlag) : (s.branchNotTaken).getFcc c = s.getFcc c := rfl
@[simp] theorem State.branchNotTaken_readByte (s : State) (a : Word) : (s.branchNotTaken).readByte a = s.readByte a := rfl
@[simp] theorem State.branchNotTaken_getDouble (s : State) (j : FReg) : (s.branchNotTaken).getDouble j = s.getDouble j := rfl
@[simp] theorem State.branchNotTaken_acc (s : State) : (s.branchNotTaken).acc = s.acc := rfl

/-! ## annulDelaySlot -/

@[simp] theorem State.annulDelaySlot_gpr (s : State) : (s.annulDelaySlot).gpr = s.gpr := rfl
@[simp] theorem State.annulDelaySlot_pc (s : State) :
    (s.annulDelaySlot).pc = if s.params.delayedBranches then s.npc + 4#32 else s.npc := rfl
@[simp] theorem State.annulDelaySlot_npc (s : State) :
    (s.annulDelaySlot).npc = if s.params.delayedBranches then s.npc + 8#32 else s.npc + 4#32 := rfl
@[simp] theorem State.annulDelaySlot_inDelaySlot (s : State) :
    (s.annulDelaySlot).inDelaySlot = false := rfl
@[simp] theorem State.annulDelaySlot_hi (s : State) : (s.annulDelaySlot).hi = s.hi := rfl
@[simp] theorem State.annulDelaySlot_lo (s : State) : (s.annulDelaySlot).lo = s.lo := rfl
@[simp] theorem State.annulDelaySlot_status (s : State) : (s.annulDelaySlot).status = s.status := rfl
@[simp] theorem State.annulDelaySlot_cause (s : State) : (s.annulDelaySlot).cause = s.cause := rfl
@[simp] theorem State.annulDelaySlot_epc (s : State) : (s.annulDelaySlot).epc = s.epc := rfl
@[simp] theorem State.annulDelaySlot_badVAddr (s : State) : (s.annulDelaySlot).badVAddr = s.badVAddr := rfl
@[simp] theorem State.annulDelaySlot_fpr (s : State) : (s.annulDelaySlot).fpr = s.fpr := rfl
@[simp] theorem State.annulDelaySlot_fcc (s : State) : (s.annulDelaySlot).fcc = s.fcc := rfl
@[simp] theorem State.annulDelaySlot_llBit (s : State) : (s.annulDelaySlot).llBit = s.llBit := rfl
@[simp] theorem State.annulDelaySlot_llAddr (s : State) : (s.annulDelaySlot).llAddr = s.llAddr := rfl
@[simp] theorem State.annulDelaySlot_mem (s : State) : (s.annulDelaySlot).mem = s.mem := rfl
@[simp] theorem State.annulDelaySlot_params (s : State) : (s.annulDelaySlot).params = s.params := rfl
@[simp] theorem State.annulDelaySlot_inputs (s : State) : (s.annulDelaySlot).inputs = s.inputs := rfl
@[simp] theorem State.annulDelaySlot_draws (s : State) : (s.annulDelaySlot).draws = s.draws := rfl
@[simp] theorem State.annulDelaySlot_getGpr (s : State) (r : Reg) : (s.annulDelaySlot).getGpr r = s.getGpr r := rfl
@[simp] theorem State.annulDelaySlot_getFpr (s : State) (j : FReg) : (s.annulDelaySlot).getFpr j = s.getFpr j := rfl
@[simp] theorem State.annulDelaySlot_getFcc (s : State) (c : CondFlag) : (s.annulDelaySlot).getFcc c = s.getFcc c := rfl
@[simp] theorem State.annulDelaySlot_readByte (s : State) (a : Word) : (s.annulDelaySlot).readByte a = s.readByte a := rfl
@[simp] theorem State.annulDelaySlot_getDouble (s : State) (j : FReg) : (s.annulDelaySlot).getDouble j = s.getDouble j := rfl
@[simp] theorem State.annulDelaySlot_acc (s : State) : (s.annulDelaySlot).acc = s.acc := rfl

/-! ## branchIf -/

@[simp] theorem State.branchIf_gpr (s : State) (taken : Bool) (target : Word) : (s.branchIf taken target).gpr = s.gpr := by unfold State.branchIf; split <;> rfl
@[simp] theorem State.branchIf_hi (s : State) (taken : Bool) (target : Word) : (s.branchIf taken target).hi = s.hi := by unfold State.branchIf; split <;> rfl
@[simp] theorem State.branchIf_lo (s : State) (taken : Bool) (target : Word) : (s.branchIf taken target).lo = s.lo := by unfold State.branchIf; split <;> rfl
@[simp] theorem State.branchIf_status (s : State) (taken : Bool) (target : Word) : (s.branchIf taken target).status = s.status := by unfold State.branchIf; split <;> rfl
@[simp] theorem State.branchIf_cause (s : State) (taken : Bool) (target : Word) : (s.branchIf taken target).cause = s.cause := by unfold State.branchIf; split <;> rfl
@[simp] theorem State.branchIf_epc (s : State) (taken : Bool) (target : Word) : (s.branchIf taken target).epc = s.epc := by unfold State.branchIf; split <;> rfl
@[simp] theorem State.branchIf_badVAddr (s : State) (taken : Bool) (target : Word) : (s.branchIf taken target).badVAddr = s.badVAddr := by unfold State.branchIf; split <;> rfl
@[simp] theorem State.branchIf_fpr (s : State) (taken : Bool) (target : Word) : (s.branchIf taken target).fpr = s.fpr := by unfold State.branchIf; split <;> rfl
@[simp] theorem State.branchIf_fcc (s : State) (taken : Bool) (target : Word) : (s.branchIf taken target).fcc = s.fcc := by unfold State.branchIf; split <;> rfl
@[simp] theorem State.branchIf_llBit (s : State) (taken : Bool) (target : Word) : (s.branchIf taken target).llBit = s.llBit := by unfold State.branchIf; split <;> rfl
@[simp] theorem State.branchIf_llAddr (s : State) (taken : Bool) (target : Word) : (s.branchIf taken target).llAddr = s.llAddr := by unfold State.branchIf; split <;> rfl
@[simp] theorem State.branchIf_mem (s : State) (taken : Bool) (target : Word) : (s.branchIf taken target).mem = s.mem := by unfold State.branchIf; split <;> rfl
@[simp] theorem State.branchIf_params (s : State) (taken : Bool) (target : Word) : (s.branchIf taken target).params = s.params := by unfold State.branchIf; split <;> rfl
@[simp] theorem State.branchIf_inputs (s : State) (taken : Bool) (target : Word) : (s.branchIf taken target).inputs = s.inputs := by unfold State.branchIf; split <;> rfl
@[simp] theorem State.branchIf_draws (s : State) (taken : Bool) (target : Word) : (s.branchIf taken target).draws = s.draws := by unfold State.branchIf; split <;> rfl
@[simp] theorem State.branchIf_getGpr (s : State) (taken : Bool) (target : Word) (r : Reg) : (s.branchIf taken target).getGpr r = s.getGpr r := by unfold State.branchIf; split <;> rfl
@[simp] theorem State.branchIf_getFpr (s : State) (taken : Bool) (target : Word) (j : FReg) : (s.branchIf taken target).getFpr j = s.getFpr j := by unfold State.branchIf; split <;> rfl
@[simp] theorem State.branchIf_getFcc (s : State) (taken : Bool) (target : Word) (c : CondFlag) : (s.branchIf taken target).getFcc c = s.getFcc c := by unfold State.branchIf; split <;> rfl
@[simp] theorem State.branchIf_readByte (s : State) (taken : Bool) (target : Word) (a : Word) : (s.branchIf taken target).readByte a = s.readByte a := by unfold State.branchIf; split <;> rfl
@[simp] theorem State.branchIf_getDouble (s : State) (taken : Bool) (target : Word) (j : FReg) : (s.branchIf taken target).getDouble j = s.getDouble j := by unfold State.branchIf; split <;> rfl
@[simp] theorem State.branchIf_acc (s : State) (taken : Bool) (target : Word) : (s.branchIf taken target).acc = s.acc := by unfold State.branchIf; split <;> rfl
@[simp] theorem State.branchIf_true (s : State) (target : Word) : s.branchIf true target = s.transferTo target := rfl
@[simp] theorem State.branchIf_false (s : State) (target : Word) : s.branchIf false target = s.branchNotTaken := rfl

/-! ## branchLikelyIf -/

@[simp] theorem State.branchLikelyIf_gpr (s : State) (taken : Bool) (target : Word) : (s.branchLikelyIf taken target).gpr = s.gpr := by unfold State.branchLikelyIf; split <;> rfl
@[simp] theorem State.branchLikelyIf_hi (s : State) (taken : Bool) (target : Word) : (s.branchLikelyIf taken target).hi = s.hi := by unfold State.branchLikelyIf; split <;> rfl
@[simp] theorem State.branchLikelyIf_lo (s : State) (taken : Bool) (target : Word) : (s.branchLikelyIf taken target).lo = s.lo := by unfold State.branchLikelyIf; split <;> rfl
@[simp] theorem State.branchLikelyIf_status (s : State) (taken : Bool) (target : Word) : (s.branchLikelyIf taken target).status = s.status := by unfold State.branchLikelyIf; split <;> rfl
@[simp] theorem State.branchLikelyIf_cause (s : State) (taken : Bool) (target : Word) : (s.branchLikelyIf taken target).cause = s.cause := by unfold State.branchLikelyIf; split <;> rfl
@[simp] theorem State.branchLikelyIf_epc (s : State) (taken : Bool) (target : Word) : (s.branchLikelyIf taken target).epc = s.epc := by unfold State.branchLikelyIf; split <;> rfl
@[simp] theorem State.branchLikelyIf_badVAddr (s : State) (taken : Bool) (target : Word) : (s.branchLikelyIf taken target).badVAddr = s.badVAddr := by unfold State.branchLikelyIf; split <;> rfl
@[simp] theorem State.branchLikelyIf_fpr (s : State) (taken : Bool) (target : Word) : (s.branchLikelyIf taken target).fpr = s.fpr := by unfold State.branchLikelyIf; split <;> rfl
@[simp] theorem State.branchLikelyIf_fcc (s : State) (taken : Bool) (target : Word) : (s.branchLikelyIf taken target).fcc = s.fcc := by unfold State.branchLikelyIf; split <;> rfl
@[simp] theorem State.branchLikelyIf_llBit (s : State) (taken : Bool) (target : Word) : (s.branchLikelyIf taken target).llBit = s.llBit := by unfold State.branchLikelyIf; split <;> rfl
@[simp] theorem State.branchLikelyIf_llAddr (s : State) (taken : Bool) (target : Word) : (s.branchLikelyIf taken target).llAddr = s.llAddr := by unfold State.branchLikelyIf; split <;> rfl
@[simp] theorem State.branchLikelyIf_mem (s : State) (taken : Bool) (target : Word) : (s.branchLikelyIf taken target).mem = s.mem := by unfold State.branchLikelyIf; split <;> rfl
@[simp] theorem State.branchLikelyIf_params (s : State) (taken : Bool) (target : Word) : (s.branchLikelyIf taken target).params = s.params := by unfold State.branchLikelyIf; split <;> rfl
@[simp] theorem State.branchLikelyIf_inputs (s : State) (taken : Bool) (target : Word) : (s.branchLikelyIf taken target).inputs = s.inputs := by unfold State.branchLikelyIf; split <;> rfl
@[simp] theorem State.branchLikelyIf_draws (s : State) (taken : Bool) (target : Word) : (s.branchLikelyIf taken target).draws = s.draws := by unfold State.branchLikelyIf; split <;> rfl
@[simp] theorem State.branchLikelyIf_getGpr (s : State) (taken : Bool) (target : Word) (r : Reg) : (s.branchLikelyIf taken target).getGpr r = s.getGpr r := by unfold State.branchLikelyIf; split <;> rfl
@[simp] theorem State.branchLikelyIf_getFpr (s : State) (taken : Bool) (target : Word) (j : FReg) : (s.branchLikelyIf taken target).getFpr j = s.getFpr j := by unfold State.branchLikelyIf; split <;> rfl
@[simp] theorem State.branchLikelyIf_getFcc (s : State) (taken : Bool) (target : Word) (c : CondFlag) : (s.branchLikelyIf taken target).getFcc c = s.getFcc c := by unfold State.branchLikelyIf; split <;> rfl
@[simp] theorem State.branchLikelyIf_readByte (s : State) (taken : Bool) (target : Word) (a : Word) : (s.branchLikelyIf taken target).readByte a = s.readByte a := by unfold State.branchLikelyIf; split <;> rfl
@[simp] theorem State.branchLikelyIf_getDouble (s : State) (taken : Bool) (target : Word) (j : FReg) : (s.branchLikelyIf taken target).getDouble j = s.getDouble j := by unfold State.branchLikelyIf; split <;> rfl
@[simp] theorem State.branchLikelyIf_acc (s : State) (taken : Bool) (target : Word) : (s.branchLikelyIf taken target).acc = s.acc := by unfold State.branchLikelyIf; split <;> rfl
@[simp] theorem State.branchLikelyIf_true (s : State) (target : Word) :
    s.branchLikelyIf true target = s.transferTo target := rfl
@[simp] theorem State.branchLikelyIf_false (s : State) (target : Word) :
    s.branchLikelyIf false target = s.annulDelaySlot := rfl

/-! ## takeException -/

@[simp] theorem State.takeException_gpr (s : State) (e : Exc) : (s.takeException e).gpr = s.gpr := rfl
@[simp] theorem State.takeException_pc (s : State) (e : Exc) :
    (s.takeException e).pc = s.params.excVector := rfl
@[simp] theorem State.takeException_npc (s : State) (e : Exc) :
    (s.takeException e).npc = s.params.excVector + 4#32 := rfl
@[simp] theorem State.takeException_inDelaySlot (s : State) (e : Exc) :
    (s.takeException e).inDelaySlot = false := rfl
@[simp] theorem State.takeException_hi (s : State) (e : Exc) : (s.takeException e).hi = s.hi := rfl
@[simp] theorem State.takeException_lo (s : State) (e : Exc) : (s.takeException e).lo = s.lo := rfl
@[simp] theorem State.takeException_status (s : State) (e : Exc) :
    (s.takeException e).status = setEXL s.status := rfl
@[simp] theorem State.takeException_cause (s : State) (e : Exc) :
    (s.takeException e).cause = setExcCode e.code (if statusEXL s.status then s.cause else setBD s.inDelaySlot s.cause) := rfl
@[simp] theorem State.takeException_epc (s : State) (e : Exc) :
    (s.takeException e).epc = if statusEXL s.status then s.epc else if s.inDelaySlot then s.pc - 4#32 else s.pc := rfl
@[simp] theorem State.takeException_badVAddr (s : State) (e : Exc) :
    (s.takeException e).badVAddr = e.badAddress s.badVAddr := rfl
@[simp] theorem State.takeException_fpr (s : State) (e : Exc) : (s.takeException e).fpr = s.fpr := rfl
@[simp] theorem State.takeException_fcc (s : State) (e : Exc) : (s.takeException e).fcc = s.fcc := rfl
@[simp] theorem State.takeException_llBit (s : State) (e : Exc) : (s.takeException e).llBit = s.llBit := rfl
@[simp] theorem State.takeException_llAddr (s : State) (e : Exc) : (s.takeException e).llAddr = s.llAddr := rfl
@[simp] theorem State.takeException_mem (s : State) (e : Exc) : (s.takeException e).mem = s.mem := rfl
@[simp] theorem State.takeException_params (s : State) (e : Exc) : (s.takeException e).params = s.params := rfl
@[simp] theorem State.takeException_inputs (s : State) (e : Exc) : (s.takeException e).inputs = s.inputs := rfl
@[simp] theorem State.takeException_draws (s : State) (e : Exc) : (s.takeException e).draws = s.draws := rfl
@[simp] theorem State.takeException_getGpr (s : State) (e : Exc) (r : Reg) : (s.takeException e).getGpr r = s.getGpr r := rfl
@[simp] theorem State.takeException_getFpr (s : State) (e : Exc) (j : FReg) : (s.takeException e).getFpr j = s.getFpr j := rfl
@[simp] theorem State.takeException_getFcc (s : State) (e : Exc) (c : CondFlag) : (s.takeException e).getFcc c = s.getFcc c := rfl
@[simp] theorem State.takeException_readByte (s : State) (e : Exc) (a : Word) : (s.takeException e).readByte a = s.readByte a := rfl
@[simp] theorem State.takeException_getDouble (s : State) (e : Exc) (j : FReg) : (s.takeException e).getDouble j = s.getDouble j := rfl
@[simp] theorem State.takeException_acc (s : State) (e : Exc) : (s.takeException e).acc = s.acc := rfl

/-! ## returnFromException -/

@[simp] theorem State.returnFromException_gpr (s : State) : (s.returnFromException).gpr = s.gpr := rfl
@[simp] theorem State.returnFromException_pc (s : State) :
    (s.returnFromException).pc = s.epc := rfl
@[simp] theorem State.returnFromException_npc (s : State) :
    (s.returnFromException).npc = s.epc + 4#32 := rfl
@[simp] theorem State.returnFromException_inDelaySlot (s : State) :
    (s.returnFromException).inDelaySlot = false := rfl
@[simp] theorem State.returnFromException_hi (s : State) : (s.returnFromException).hi = s.hi := rfl
@[simp] theorem State.returnFromException_lo (s : State) : (s.returnFromException).lo = s.lo := rfl
@[simp] theorem State.returnFromException_status (s : State) :
    (s.returnFromException).status = clearEXL s.status := rfl
@[simp] theorem State.returnFromException_cause (s : State) : (s.returnFromException).cause = s.cause := rfl
@[simp] theorem State.returnFromException_epc (s : State) : (s.returnFromException).epc = s.epc := rfl
@[simp] theorem State.returnFromException_badVAddr (s : State) : (s.returnFromException).badVAddr = s.badVAddr := rfl
@[simp] theorem State.returnFromException_fpr (s : State) : (s.returnFromException).fpr = s.fpr := rfl
@[simp] theorem State.returnFromException_fcc (s : State) : (s.returnFromException).fcc = s.fcc := rfl
@[simp] theorem State.returnFromException_llBit (s : State) :
    (s.returnFromException).llBit = false := rfl
@[simp] theorem State.returnFromException_llAddr (s : State) : (s.returnFromException).llAddr = s.llAddr := rfl
@[simp] theorem State.returnFromException_mem (s : State) : (s.returnFromException).mem = s.mem := rfl
@[simp] theorem State.returnFromException_params (s : State) : (s.returnFromException).params = s.params := rfl
@[simp] theorem State.returnFromException_inputs (s : State) : (s.returnFromException).inputs = s.inputs := rfl
@[simp] theorem State.returnFromException_draws (s : State) : (s.returnFromException).draws = s.draws := rfl
@[simp] theorem State.returnFromException_getGpr (s : State) (r : Reg) : (s.returnFromException).getGpr r = s.getGpr r := rfl
@[simp] theorem State.returnFromException_getFpr (s : State) (j : FReg) : (s.returnFromException).getFpr j = s.getFpr j := rfl
@[simp] theorem State.returnFromException_getFcc (s : State) (c : CondFlag) : (s.returnFromException).getFcc c = s.getFcc c := rfl
@[simp] theorem State.returnFromException_readByte (s : State) (a : Word) : (s.returnFromException).readByte a = s.readByte a := rfl
@[simp] theorem State.returnFromException_getDouble (s : State) (j : FReg) : (s.returnFromException).getDouble j = s.getDouble j := rfl
@[simp] theorem State.returnFromException_acc (s : State) : (s.returnFromException).acc = s.acc := rfl

/-! ## setReservation -/

@[simp] theorem State.setReservation_gpr (s : State) (v : Word) : (s.setReservation v).gpr = s.gpr := rfl
@[simp] theorem State.setReservation_pc (s : State) (v : Word) : (s.setReservation v).pc = s.pc := rfl
@[simp] theorem State.setReservation_npc (s : State) (v : Word) : (s.setReservation v).npc = s.npc := rfl
@[simp] theorem State.setReservation_inDelaySlot (s : State) (v : Word) : (s.setReservation v).inDelaySlot = s.inDelaySlot := rfl
@[simp] theorem State.setReservation_hi (s : State) (v : Word) : (s.setReservation v).hi = s.hi := rfl
@[simp] theorem State.setReservation_lo (s : State) (v : Word) : (s.setReservation v).lo = s.lo := rfl
@[simp] theorem State.setReservation_status (s : State) (v : Word) : (s.setReservation v).status = s.status := rfl
@[simp] theorem State.setReservation_cause (s : State) (v : Word) : (s.setReservation v).cause = s.cause := rfl
@[simp] theorem State.setReservation_epc (s : State) (v : Word) : (s.setReservation v).epc = s.epc := rfl
@[simp] theorem State.setReservation_badVAddr (s : State) (v : Word) : (s.setReservation v).badVAddr = s.badVAddr := rfl
@[simp] theorem State.setReservation_fpr (s : State) (v : Word) : (s.setReservation v).fpr = s.fpr := rfl
@[simp] theorem State.setReservation_fcc (s : State) (v : Word) : (s.setReservation v).fcc = s.fcc := rfl
@[simp] theorem State.setReservation_llBit (s : State) (v : Word) :
    (s.setReservation v).llBit = true := rfl
@[simp] theorem State.setReservation_llAddr (s : State) (v : Word) :
    (s.setReservation v).llAddr = v := rfl
@[simp] theorem State.setReservation_mem (s : State) (v : Word) : (s.setReservation v).mem = s.mem := rfl
@[simp] theorem State.setReservation_params (s : State) (v : Word) : (s.setReservation v).params = s.params := rfl
@[simp] theorem State.setReservation_inputs (s : State) (v : Word) : (s.setReservation v).inputs = s.inputs := rfl
@[simp] theorem State.setReservation_draws (s : State) (v : Word) : (s.setReservation v).draws = s.draws := rfl
@[simp] theorem State.setReservation_getGpr (s : State) (v : Word) (r : Reg) : (s.setReservation v).getGpr r = s.getGpr r := rfl
@[simp] theorem State.setReservation_getFpr (s : State) (v : Word) (j : FReg) : (s.setReservation v).getFpr j = s.getFpr j := rfl
@[simp] theorem State.setReservation_getFcc (s : State) (v : Word) (c : CondFlag) : (s.setReservation v).getFcc c = s.getFcc c := rfl
@[simp] theorem State.setReservation_readByte (s : State) (v : Word) (a : Word) : (s.setReservation v).readByte a = s.readByte a := rfl
@[simp] theorem State.setReservation_getDouble (s : State) (v : Word) (j : FReg) : (s.setReservation v).getDouble j = s.getDouble j := rfl
@[simp] theorem State.setReservation_acc (s : State) (v : Word) : (s.setReservation v).acc = s.acc := rfl

/-! ## clearReservation -/

@[simp] theorem State.clearReservation_gpr (s : State) : (s.clearReservation).gpr = s.gpr := rfl
@[simp] theorem State.clearReservation_pc (s : State) : (s.clearReservation).pc = s.pc := rfl
@[simp] theorem State.clearReservation_npc (s : State) : (s.clearReservation).npc = s.npc := rfl
@[simp] theorem State.clearReservation_inDelaySlot (s : State) : (s.clearReservation).inDelaySlot = s.inDelaySlot := rfl
@[simp] theorem State.clearReservation_hi (s : State) : (s.clearReservation).hi = s.hi := rfl
@[simp] theorem State.clearReservation_lo (s : State) : (s.clearReservation).lo = s.lo := rfl
@[simp] theorem State.clearReservation_status (s : State) : (s.clearReservation).status = s.status := rfl
@[simp] theorem State.clearReservation_cause (s : State) : (s.clearReservation).cause = s.cause := rfl
@[simp] theorem State.clearReservation_epc (s : State) : (s.clearReservation).epc = s.epc := rfl
@[simp] theorem State.clearReservation_badVAddr (s : State) : (s.clearReservation).badVAddr = s.badVAddr := rfl
@[simp] theorem State.clearReservation_fpr (s : State) : (s.clearReservation).fpr = s.fpr := rfl
@[simp] theorem State.clearReservation_fcc (s : State) : (s.clearReservation).fcc = s.fcc := rfl
@[simp] theorem State.clearReservation_llBit (s : State) :
    (s.clearReservation).llBit = false := rfl
@[simp] theorem State.clearReservation_llAddr (s : State) : (s.clearReservation).llAddr = s.llAddr := rfl
@[simp] theorem State.clearReservation_mem (s : State) : (s.clearReservation).mem = s.mem := rfl
@[simp] theorem State.clearReservation_params (s : State) : (s.clearReservation).params = s.params := rfl
@[simp] theorem State.clearReservation_inputs (s : State) : (s.clearReservation).inputs = s.inputs := rfl
@[simp] theorem State.clearReservation_draws (s : State) : (s.clearReservation).draws = s.draws := rfl
@[simp] theorem State.clearReservation_getGpr (s : State) (r : Reg) : (s.clearReservation).getGpr r = s.getGpr r := rfl
@[simp] theorem State.clearReservation_getFpr (s : State) (j : FReg) : (s.clearReservation).getFpr j = s.getFpr j := rfl
@[simp] theorem State.clearReservation_getFcc (s : State) (c : CondFlag) : (s.clearReservation).getFcc c = s.getFcc c := rfl
@[simp] theorem State.clearReservation_readByte (s : State) (a : Word) : (s.clearReservation).readByte a = s.readByte a := rfl
@[simp] theorem State.clearReservation_getDouble (s : State) (j : FReg) : (s.clearReservation).getDouble j = s.getDouble j := rfl
@[simp] theorem State.clearReservation_acc (s : State) : (s.clearReservation).acc = s.acc := rfl

/-! ## drawn -/

@[simp] theorem State.drawn_gpr (s : State) (n : Nat) : (s.drawn n).gpr = s.gpr := rfl
@[simp] theorem State.drawn_pc (s : State) (n : Nat) : (s.drawn n).pc = s.pc := rfl
@[simp] theorem State.drawn_npc (s : State) (n : Nat) : (s.drawn n).npc = s.npc := rfl
@[simp] theorem State.drawn_inDelaySlot (s : State) (n : Nat) : (s.drawn n).inDelaySlot = s.inDelaySlot := rfl
@[simp] theorem State.drawn_hi (s : State) (n : Nat) : (s.drawn n).hi = s.hi := rfl
@[simp] theorem State.drawn_lo (s : State) (n : Nat) : (s.drawn n).lo = s.lo := rfl
@[simp] theorem State.drawn_status (s : State) (n : Nat) : (s.drawn n).status = s.status := rfl
@[simp] theorem State.drawn_cause (s : State) (n : Nat) : (s.drawn n).cause = s.cause := rfl
@[simp] theorem State.drawn_epc (s : State) (n : Nat) : (s.drawn n).epc = s.epc := rfl
@[simp] theorem State.drawn_badVAddr (s : State) (n : Nat) : (s.drawn n).badVAddr = s.badVAddr := rfl
@[simp] theorem State.drawn_fpr (s : State) (n : Nat) : (s.drawn n).fpr = s.fpr := rfl
@[simp] theorem State.drawn_fcc (s : State) (n : Nat) : (s.drawn n).fcc = s.fcc := rfl
@[simp] theorem State.drawn_llBit (s : State) (n : Nat) : (s.drawn n).llBit = s.llBit := rfl
@[simp] theorem State.drawn_llAddr (s : State) (n : Nat) : (s.drawn n).llAddr = s.llAddr := rfl
@[simp] theorem State.drawn_mem (s : State) (n : Nat) : (s.drawn n).mem = s.mem := rfl
@[simp] theorem State.drawn_params (s : State) (n : Nat) : (s.drawn n).params = s.params := rfl
@[simp] theorem State.drawn_inputs (s : State) (n : Nat) : (s.drawn n).inputs = s.inputs := rfl
@[simp] theorem State.drawn_draws (s : State) (n : Nat) :
    (s.drawn n).draws = s.draws + n := rfl
@[simp] theorem State.drawn_getGpr (s : State) (n : Nat) (r : Reg) : (s.drawn n).getGpr r = s.getGpr r := rfl
@[simp] theorem State.drawn_getFpr (s : State) (n : Nat) (j : FReg) : (s.drawn n).getFpr j = s.getFpr j := rfl
@[simp] theorem State.drawn_getFcc (s : State) (n : Nat) (c : CondFlag) : (s.drawn n).getFcc c = s.getFcc c := rfl
@[simp] theorem State.drawn_readByte (s : State) (n : Nat) (a : Word) : (s.drawn n).readByte a = s.readByte a := rfl
@[simp] theorem State.drawn_getDouble (s : State) (n : Nat) (j : FReg) : (s.drawn n).getDouble j = s.getDouble j := rfl
@[simp] theorem State.drawn_acc (s : State) (n : Nat) : (s.drawn n).acc = s.acc := rfl

/-! ## writeValue -/

@[simp] theorem State.writeValue_gpr (s : State) (a : Word) (n v : Nat) : (s.writeValue a n v).gpr = s.gpr := rfl
@[simp] theorem State.writeValue_pc (s : State) (a : Word) (n v : Nat) : (s.writeValue a n v).pc = s.pc := rfl
@[simp] theorem State.writeValue_npc (s : State) (a : Word) (n v : Nat) : (s.writeValue a n v).npc = s.npc := rfl
@[simp] theorem State.writeValue_inDelaySlot (s : State) (a : Word) (n v : Nat) : (s.writeValue a n v).inDelaySlot = s.inDelaySlot := rfl
@[simp] theorem State.writeValue_hi (s : State) (a : Word) (n v : Nat) : (s.writeValue a n v).hi = s.hi := rfl
@[simp] theorem State.writeValue_lo (s : State) (a : Word) (n v : Nat) : (s.writeValue a n v).lo = s.lo := rfl
@[simp] theorem State.writeValue_status (s : State) (a : Word) (n v : Nat) : (s.writeValue a n v).status = s.status := rfl
@[simp] theorem State.writeValue_cause (s : State) (a : Word) (n v : Nat) : (s.writeValue a n v).cause = s.cause := rfl
@[simp] theorem State.writeValue_epc (s : State) (a : Word) (n v : Nat) : (s.writeValue a n v).epc = s.epc := rfl
@[simp] theorem State.writeValue_badVAddr (s : State) (a : Word) (n v : Nat) : (s.writeValue a n v).badVAddr = s.badVAddr := rfl
@[simp] theorem State.writeValue_fpr (s : State) (a : Word) (n v : Nat) : (s.writeValue a n v).fpr = s.fpr := rfl
@[simp] theorem State.writeValue_fcc (s : State) (a : Word) (n v : Nat) : (s.writeValue a n v).fcc = s.fcc := rfl
@[simp] theorem State.writeValue_llBit (s : State) (a : Word) (n v : Nat) : (s.writeValue a n v).llBit = s.llBit := rfl
@[simp] theorem State.writeValue_llAddr (s : State) (a : Word) (n v : Nat) : (s.writeValue a n v).llAddr = s.llAddr := rfl
@[simp] theorem State.writeValue_mem (s : State) (a : Word) (n v : Nat) :
    (s.writeValue a n v).mem = Memory.writeBytes s.mem a (natToBytes s.params.bigEndian n v) := rfl
@[simp] theorem State.writeValue_params (s : State) (a : Word) (n v : Nat) : (s.writeValue a n v).params = s.params := rfl
@[simp] theorem State.writeValue_inputs (s : State) (a : Word) (n v : Nat) : (s.writeValue a n v).inputs = s.inputs := rfl
@[simp] theorem State.writeValue_draws (s : State) (a : Word) (n v : Nat) : (s.writeValue a n v).draws = s.draws := rfl
@[simp] theorem State.writeValue_getGpr (s : State) (a : Word) (n v : Nat) (r : Reg) : (s.writeValue a n v).getGpr r = s.getGpr r := rfl
@[simp] theorem State.writeValue_getFpr (s : State) (a : Word) (n v : Nat) (j : FReg) : (s.writeValue a n v).getFpr j = s.getFpr j := rfl
@[simp] theorem State.writeValue_getFcc (s : State) (a : Word) (n v : Nat) (c : CondFlag) : (s.writeValue a n v).getFcc c = s.getFcc c := rfl
@[simp] theorem State.writeValue_getDouble (s : State) (a : Word) (n v : Nat) (j : FReg) : (s.writeValue a n v).getDouble j = s.getDouble j := rfl
@[simp] theorem State.writeValue_acc (s : State) (a : Word) (n v : Nat) : (s.writeValue a n v).acc = s.acc := rfl

/-! ## otherAgentWrites -/

@[simp] theorem State.otherAgentWrites_gpr (s : State) (w : Word × Byte) : (s.otherAgentWrites w).gpr = s.gpr := rfl
@[simp] theorem State.otherAgentWrites_pc (s : State) (w : Word × Byte) : (s.otherAgentWrites w).pc = s.pc := rfl
@[simp] theorem State.otherAgentWrites_npc (s : State) (w : Word × Byte) : (s.otherAgentWrites w).npc = s.npc := rfl
@[simp] theorem State.otherAgentWrites_inDelaySlot (s : State) (w : Word × Byte) : (s.otherAgentWrites w).inDelaySlot = s.inDelaySlot := rfl
@[simp] theorem State.otherAgentWrites_hi (s : State) (w : Word × Byte) : (s.otherAgentWrites w).hi = s.hi := rfl
@[simp] theorem State.otherAgentWrites_lo (s : State) (w : Word × Byte) : (s.otherAgentWrites w).lo = s.lo := rfl
@[simp] theorem State.otherAgentWrites_status (s : State) (w : Word × Byte) : (s.otherAgentWrites w).status = s.status := rfl
@[simp] theorem State.otherAgentWrites_cause (s : State) (w : Word × Byte) : (s.otherAgentWrites w).cause = s.cause := rfl
@[simp] theorem State.otherAgentWrites_epc (s : State) (w : Word × Byte) : (s.otherAgentWrites w).epc = s.epc := rfl
@[simp] theorem State.otherAgentWrites_badVAddr (s : State) (w : Word × Byte) : (s.otherAgentWrites w).badVAddr = s.badVAddr := rfl
@[simp] theorem State.otherAgentWrites_fpr (s : State) (w : Word × Byte) : (s.otherAgentWrites w).fpr = s.fpr := rfl
@[simp] theorem State.otherAgentWrites_fcc (s : State) (w : Word × Byte) : (s.otherAgentWrites w).fcc = s.fcc := rfl
@[simp] theorem State.otherAgentWrites_llBit (s : State) (w : Word × Byte) :
    (s.otherAgentWrites w).llBit = (s.llBit && !sameBlock s.params w.1 s.llAddr) := rfl
@[simp] theorem State.otherAgentWrites_llAddr (s : State) (w : Word × Byte) : (s.otherAgentWrites w).llAddr = s.llAddr := rfl
@[simp] theorem State.otherAgentWrites_mem (s : State) (w : Word × Byte) :
    (s.otherAgentWrites w).mem = Memory.write s.mem w.1.toNat w.2 := rfl
@[simp] theorem State.otherAgentWrites_params (s : State) (w : Word × Byte) : (s.otherAgentWrites w).params = s.params := rfl
@[simp] theorem State.otherAgentWrites_inputs (s : State) (w : Word × Byte) : (s.otherAgentWrites w).inputs = s.inputs := rfl
@[simp] theorem State.otherAgentWrites_draws (s : State) (w : Word × Byte) : (s.otherAgentWrites w).draws = s.draws := rfl
@[simp] theorem State.otherAgentWrites_getGpr (s : State) (w : Word × Byte) (r : Reg) : (s.otherAgentWrites w).getGpr r = s.getGpr r := rfl
@[simp] theorem State.otherAgentWrites_getFpr (s : State) (w : Word × Byte) (j : FReg) : (s.otherAgentWrites w).getFpr j = s.getFpr j := rfl
@[simp] theorem State.otherAgentWrites_getFcc (s : State) (w : Word × Byte) (c : CondFlag) : (s.otherAgentWrites w).getFcc c = s.getFcc c := rfl
@[simp] theorem State.otherAgentWrites_getDouble (s : State) (w : Word × Byte) (j : FReg) : (s.otherAgentWrites w).getDouble j = s.getDouble j := rfl
@[simp] theorem State.otherAgentWrites_acc (s : State) (w : Word × Byte) : (s.otherAgentWrites w).acc = s.acc := rfl

end Sys2Proof.Machine
end

