-- ==== Sys2Proof/Laws/Memory.lean ====
section
/-!
SUPPORT. Memory: a read after a write, and the canonical form, which every memory operation keeps.
-/

namespace Sys2Proof.Machine

/-- Nothing below the lower end of a canonical memory is listed. -/
theorem Memory.read_of_wfAbove (m : Memory) (l a : Nat) (h : Memory.wfAbove (some l) m = true) (ha : a ≤ l) :
    Memory.read m a = unlistedByte := by
  induction m generalizing l with
  | nil => rfl
  | cons e m ih =>
    obtain ⟨b, w⟩ := e
    simp only [Memory.wfAbove, Bool.and_eq_true, decide_eq_true_eq] at h
    obtain ⟨⟨⟨hl, -⟩, -⟩, hm⟩ := h
    have : a ≠ b := by omega
    simp only [Memory.read, this, if_false]
    exact ih b hm (by omega)

/-- A canonical memory stays canonical above a lower bound of all it lists. -/
theorem Memory.wfAbove_weaken (m : Memory) (l l' : Nat) (h : Memory.wfAbove (some l) m = true) (hl : l' ≤ l) :
    Memory.wfAbove (some l') m = true := by
  cases m with
  | nil => rfl
  | cons e m =>
    obtain ⟨b, w⟩ := e
    simp only [Memory.wfAbove, Bool.and_eq_true, decide_eq_true_eq] at h ⊢
    obtain ⟨⟨⟨h1, h2⟩, h3⟩, h4⟩ := h
    exact ⟨⟨⟨by omega, h2⟩, h3⟩, h4⟩

/-- A memory canonical above a bound is canonical. -/
theorem Memory.wf_of_wfAbove (m : Memory) (l : Nat) (h : Memory.wfAbove (some l) m = true) : m.wf = true := by
  cases m with
  | nil => rfl
  | cons e m =>
    obtain ⟨b, w⟩ := e
    simp only [Memory.wf, Memory.wfAbove, Bool.and_eq_true, decide_eq_true_eq, Bool.true_and] at h ⊢
    obtain ⟨⟨⟨-, h2⟩, h3⟩, h4⟩ := h
    exact ⟨⟨h2, h3⟩, h4⟩

/-- A write keeps the canonical form above a bound. -/
theorem Memory.wfAbove_write (m : Memory) (l a : Nat) (v : Byte) (h : Memory.wfAbove (some l) m = true) (hl : l < a)
    (ha : a < 2 ^ 32) : Memory.wfAbove (some l) (Memory.write m a v) = true := by
  have ha' : a < 4294967296 := ha
  induction m generalizing l with
  | nil =>
    unfold Memory.write
    split
    · rfl
    · next hv => simp [Memory.wfAbove, hl, ha', hv]
  | cons e m ih =>
    obtain ⟨b, w⟩ := e
    have h' := h
    simp only [Memory.wfAbove, Bool.and_eq_true, decide_eq_true_eq] at h
    obtain ⟨⟨⟨h1, h2⟩, h3⟩, h4⟩ := h
    have h2' : b < 4294967296 := h2
    unfold Memory.write
    split
    · next hab =>
      split
      · exact h'
      · next hv => simp [Memory.wfAbove, hl, ha', hv, hab, h2', h4, bne_iff_ne.mp h3]
    · split
      · next hab =>
        split
        · exact Memory.wfAbove_weaken m b l h4 (by omega)
        · next hv => subst hab; simp [Memory.wfAbove, hl, ha', hv, h4]
      · have := ih b h4 (by omega)
        simp [Memory.wfAbove, h1, h2', bne_iff_ne.mp h3, this]

/-- A write keeps the canonical form. -/
theorem Memory.wf_write (m : Memory) (a : Nat) (v : Byte) (h : m.wf = true) (ha : a < 2 ^ 32) :
    (Memory.write m a v).wf = true := by
  have ha' : a < 4294967296 := ha
  cases m with
  | nil =>
    unfold Memory.write
    split
    · rfl
    · next hv => simp [Memory.wf, Memory.wfAbove, ha', hv]
  | cons e m =>
    obtain ⟨b, w⟩ := e
    have h' := h
    simp only [Memory.wf, Memory.wfAbove, Bool.and_eq_true, decide_eq_true_eq, Bool.true_and] at h
    obtain ⟨⟨h2, h3⟩, h4⟩ := h
    have h2' : b < 4294967296 := h2
    unfold Memory.write
    split
    · next hab =>
      split
      · exact h'
      · next hv => simp [Memory.wf, Memory.wfAbove, ha', hv, hab, h2', h4, bne_iff_ne.mp h3]
    · split
      · next hab =>
        split
        · exact Memory.wf_of_wfAbove m b h4
        · next hv => subst hab; simp [Memory.wf, Memory.wfAbove, ha', hv, h4]
      · have := Memory.wfAbove_write m b a v h4 (by omega) ha
        simp [Memory.wf, Memory.wfAbove, h2', bne_iff_ne.mp h3, this]

/-- A write of several bytes keeps the canonical form. -/
theorem Memory.wf_writeBytes (m : Memory) (a : Word) (bs : List Byte) (h : m.wf = true) :
    (Memory.writeBytes m a bs).wf = true := by
  induction bs generalizing m a with
  | nil => exact h
  | cons b bs ih => exact ih _ _ (Memory.wf_write m a.toNat b h a.isLt)

/-- The memory after reset is canonical. -/
theorem State.reset_mem_wf : State.reset.mem.wf = true := rfl

/-- A byte read after a byte was written, in a canonical memory. -/
theorem Memory.read_write (m : Memory) (a b : Nat) (v : Byte) (h : m.wf = true) :
    Memory.read (Memory.write m a v) b = if b = a then v else Memory.read m b := by
  suffices H : ∀ (lo : Option Nat), Memory.wfAbove lo m = true →
      Memory.read (Memory.write m a v) b = if b = a then v else Memory.read m b from H none h
  clear h
  induction m with
  | nil =>
    intro lo _
    unfold Memory.write
    by_cases hv : v = unlistedByte
    · simp [hv, Memory.read]
    · simp [hv, Memory.read]
  | cons e m ih =>
    intro lo hwf
    obtain ⟨c, w⟩ := e
    simp only [Memory.wfAbove, Bool.and_eq_true] at hwf
    obtain ⟨-, hm⟩ := hwf
    have below : ∀ d, d ≤ c → Memory.read m d = unlistedByte := fun d hd => Memory.read_of_wfAbove m c d hm hd
    unfold Memory.write
    by_cases hac : a < c
    · by_cases hv : v = unlistedByte
      · by_cases hba : b = a
        · have : b ≠ c := by omega
          subst hba
          simp [hac, hv, Memory.read, this, below b (by omega)]
        · simp [hac, hv, hba]
      · by_cases hba : b = a
        · simp [hac, hv, Memory.read, hba]
        · simp [hac, hv, Memory.read, hba]
    · by_cases hac' : a = c
      · subst hac'
        by_cases hv : v = unlistedByte
        · by_cases hba : b = a
          · simp [hv, hba, below a (by omega)]
          · simp [hv, hba, Memory.read]
        · by_cases hba : b = a
          · simp [hv, Memory.read, hba]
          · simp [hv, Memory.read, hba]
      · by_cases hbc : b = c
        · have : b ≠ a := by omega
          subst hbc
          simp [hac, hac', Memory.read, this]
        · simp only [hac, hac', if_false, Memory.read, hbc]
          exact ih (some c) hm

/-- A byte outside the bytes written reads as before. -/
theorem Memory.read_writeBytes_outside (m : Memory) (a b : Word) (bs : List Byte) (h : m.wf = true)
    (hb : ∀ k, k < bs.length → b ≠ a + BitVec.ofNat 32 k) :
    Memory.read (Memory.writeBytes m a bs) b.toNat = Memory.read m b.toNat := by
  induction bs generalizing m a with
  | nil => rfl
  | cons x bs ih =>
    have h0 : b ≠ a := by simpa using hb 0 (by simp)
    have h0' : b.toNat ≠ a.toNat := fun e => h0 (BitVec.eq_of_toNat_eq e)
    show Memory.read (Memory.writeBytes (Memory.write m a.toNat x) (a + 1#32) bs) b.toNat = _
    rw [ih _ _ (Memory.wf_write m a.toNat x h a.isLt), Memory.read_write m _ _ _ h, if_neg h0']
    intro k hk
    have := hb (k + 1) (by simp; omega)
    intro e
    apply this
    rw [e, BitVec.add_assoc]
    congr 1
    rw [Nat.add_comm k 1, BitVec.ofNat_add]

/-- Byte `k` of those written. -/
theorem Memory.read_writeBytes_inside (m : Memory) (a : Word) (bs : List Byte) (k : Nat) (h : m.wf = true)
    (hk : k < bs.length) (hlen : bs.length ≤ 2 ^ 32) :
    Memory.read (Memory.writeBytes m a bs) (a + BitVec.ofNat 32 k).toNat = bs[k] := by
  induction bs generalizing m a k with
  | nil => simp at hk
  | cons x bs ih =>
    have hwf := Memory.wf_write m a.toNat x h a.isLt
    show Memory.read (Memory.writeBytes (Memory.write m a.toNat x) (a + 1#32) bs) _ = _
    cases k with
    | zero =>
      rw [Memory.read_writeBytes_outside _ _ _ _ hwf]
      · simp [Memory.read_write m _ _ _ h]
      · intro j hj e
        simp only [List.length_cons] at hlen
        have e' : a + (1#32 + BitVec.ofNat 32 j) = a + 0#32 := by
          rw [← BitVec.add_assoc, ← e]
        have := (BitVec.add_right_inj a).mp e'
        have h2 := congrArg BitVec.toNat this
        simp at h2
        omega
    | succ k =>
      have := ih (Memory.write m a.toNat x) (a + 1#32) k hwf (by simpa using hk)
        (by simp only [List.length_cons] at hlen; omega)
      rw [show a + BitVec.ofNat 32 (k + 1) = a + 1#32 + BitVec.ofNat 32 k by
        rw [BitVec.add_assoc, Nat.add_comm k 1, BitVec.ofNat_add]]
      simpa using this

/-- How many bytes an access of `n` bytes lays out. -/
@[simp] theorem littleEndianBytes_length (n v : Nat) : (littleEndianBytes n v).length = n := by
  induction n generalizing v with
  | zero => rfl
  | succ n ih => simp [littleEndianBytes, ih]

@[simp] theorem natToBytes_length (be : Bool) (n v : Nat) : (natToBytes be n v).length = n := by
  unfold natToBytes; split <;> simp

@[simp] theorem Memory.readBytes_length (m : Memory) (a : Word) (n : Nat) : (Memory.readBytes m a n).length = n := by
  induction n generalizing a with
  | zero => rfl
  | succ n ih => simp [Memory.readBytes, ih]

/-- The bytes of an access, one by one. -/
theorem Memory.readBytes_getElem (m : Memory) (a : Word) (n k : Nat) (h : k < (Memory.readBytes m a n).length) :
    (Memory.readBytes m a n)[k] = Memory.read m (a + BitVec.ofNat 32 k).toNat := by
  induction n generalizing a k with
  | zero => simp [Memory.readBytes] at h
  | succ n ih =>
    cases k with
    | zero => simp [Memory.readBytes]
    | succ k =>
      simp only [Memory.readBytes, List.getElem_cons_succ]
      rw [ih]
      rw [show a + BitVec.ofNat 32 (k + 1) = a + 1#32 + BitVec.ofNat 32 k by
        rw [BitVec.add_assoc, Nat.add_comm k 1, BitVec.ofNat_add]]

/-- The value of the bytes laid out, least significant first. -/
theorem littleEndianValue_bytes (n v : Nat) : littleEndianValue (littleEndianBytes n v) = v % 256 ^ n := by
  induction n generalizing v with
  | zero => simp [littleEndianBytes, littleEndianValue, Nat.mod_one]
  | succ n ih =>
    simp only [littleEndianBytes, littleEndianValue, ih, BitVec.toNat_ofNat]
    have := Nat.mod_mul (x := v) (a := 256) (b := 256 ^ n)
    have pw : 256 ^ (n + 1) = 256 * 256 ^ n := Nat.pow_succ'
    rw [pw, this]

/-- What is laid out in a byte order reads back in it (R62). -/
theorem bytesToNat_natToBytes (be : Bool) (n v : Nat) : bytesToNat be (natToBytes be n v) = v % 256 ^ n := by
  unfold bytesToNat natToBytes
  cases be <;> simp [littleEndianValue_bytes]

/-- A value is below 256 to the number of its bytes. -/
theorem littleEndianValue_lt (bs : List Byte) : littleEndianValue bs < 256 ^ bs.length := by
  induction bs with
  | nil => simp [littleEndianValue]
  | cons b bs ih =>
    simp only [littleEndianValue, List.length_cons, Nat.pow_succ']
    have := b.isLt
    omega

/-- The bytes written read back. -/
theorem Memory.readBytes_writeBytes (m : Memory) (a : Word) (bs : List Byte) (h : m.wf = true)
    (hlen : bs.length ≤ 2 ^ 32) : Memory.readBytes (Memory.writeBytes m a bs) a bs.length = bs := by
  apply List.ext_getElem
  · simp
  · intro k h1 h2
    rw [Memory.readBytes_getElem, Memory.read_writeBytes_inside m a bs k h h2 hlen]

/-- A value stored reads back (R62, R63). -/
theorem State.readValue_writeValue (s : State) (a : Word) (n v : Nat) (h : s.mem.wf = true) (hn : n ≤ 2 ^ 32) :
    (s.writeValue a n v).readValue a n = v % 256 ^ n := by
  have := Memory.readBytes_writeBytes s.mem a (natToBytes s.params.bigEndian n v) h (by simpa using hn)
  simp only [natToBytes_length] at this
  simp [State.readValue, this, bytesToNat_natToBytes]

/-- A store keeps the canonical form. -/
theorem State.writeValue_wf (s : State) (a : Word) (n v : Nat) (h : s.mem.wf = true) :
    (s.writeValue a n v).mem.wf = true :=
  Memory.wf_writeBytes _ _ _ h

/-- A byte outside a store reads as before. -/
theorem State.readByte_writeValue_outside (s : State) (a b : Word) (n v : Nat) (h : s.mem.wf = true)
    (hb : ∀ k, k < n → b ≠ a + BitVec.ofNat 32 k) : (s.writeValue a n v).readByte b = s.readByte b :=
  Memory.read_writeBytes_outside _ _ _ _ h (by simpa using hb)

/-- What another agent writes keeps the canonical form. -/
theorem State.otherAgentWrites_wf (s : State) (w : Word × Byte) (h : s.mem.wf = true) :
    (s.otherAgentWrites w).mem.wf = true :=
  Memory.wf_write _ _ _ h w.1.isLt

end Sys2Proof.Machine
end

