-- ==== Sys2Proof/Laws/Encoding.lean ====
section
/-!
SUPPORT. The fields of the words the encoder writes.
-/

namespace Sys2Proof

@[simp] theorem opField_rType (op : BitVec 6) (rs rt rd shamt : BitVec 5) (funct : BitVec 6) :
    opField (rType op rs rt rd shamt funct) = op := by
  unfold opField rType fieldAt
  ext i hi
  simp only [BitVec.getElem_extractLsb']
  interval_cases i <;> simp

@[simp] theorem rsField_rType (op : BitVec 6) (rs rt rd shamt : BitVec 5) (funct : BitVec 6) :
    rsField (rType op rs rt rd shamt funct) = rs := by
  unfold rsField rType fieldAt
  ext i hi
  simp only [BitVec.getElem_extractLsb']
  interval_cases i <;> simp

@[simp] theorem rtField_rType (op : BitVec 6) (rs rt rd shamt : BitVec 5) (funct : BitVec 6) :
    rtField (rType op rs rt rd shamt funct) = rt := by
  unfold rtField rType fieldAt
  ext i hi
  simp only [BitVec.getElem_extractLsb']
  interval_cases i <;> simp

@[simp] theorem rdField_rType (op : BitVec 6) (rs rt rd shamt : BitVec 5) (funct : BitVec 6) :
    rdField (rType op rs rt rd shamt funct) = rd := by
  unfold rdField rType fieldAt
  ext i hi
  simp only [BitVec.getElem_extractLsb']
  interval_cases i <;> simp

@[simp] theorem shamtField_rType (op : BitVec 6) (rs rt rd shamt : BitVec 5) (funct : BitVec 6) :
    shamtField (rType op rs rt rd shamt funct) = shamt := by
  unfold shamtField rType fieldAt
  ext i hi
  simp only [BitVec.getElem_extractLsb']
  interval_cases i <;> simp

@[simp] theorem functField_rType (op : BitVec 6) (rs rt rd shamt : BitVec 5) (funct : BitVec 6) :
    functField (rType op rs rt rd shamt funct) = funct := by
  unfold functField rType fieldAt
  ext i hi
  simp only [BitVec.getElem_extractLsb']
  interval_cases i <;> simp

@[simp] theorem opField_iType (op : BitVec 6) (rs rt : BitVec 5) (imm : BitVec 16) :
    opField (iType op rs rt imm) = op := by
  unfold opField iType fieldAt
  ext i hi
  simp only [BitVec.getElem_extractLsb']
  interval_cases i <;> simp

@[simp] theorem rsField_iType (op : BitVec 6) (rs rt : BitVec 5) (imm : BitVec 16) :
    rsField (iType op rs rt imm) = rs := by
  unfold rsField iType fieldAt
  ext i hi
  simp only [BitVec.getElem_extractLsb']
  interval_cases i <;> simp

@[simp] theorem rtField_iType (op : BitVec 6) (rs rt : BitVec 5) (imm : BitVec 16) :
    rtField (iType op rs rt imm) = rt := by
  unfold rtField iType fieldAt
  ext i hi
  simp only [BitVec.getElem_extractLsb']
  interval_cases i <;> simp

@[simp] theorem immField_iType (op : BitVec 6) (rs rt : BitVec 5) (imm : BitVec 16) :
    immField (iType op rs rt imm) = imm := by
  unfold immField iType fieldAt
  ext i hi
  simp only [BitVec.getElem_extractLsb']
  interval_cases i <;> simp

@[simp] theorem opField_jType (op : BitVec 6) (target : BitVec 26) :
    opField (jType op target) = op := by
  unfold opField jType fieldAt
  ext i hi
  simp only [BitVec.getElem_extractLsb']
  interval_cases i <;> simp

@[simp] theorem targetField_jType (op : BitVec 6) (target : BitVec 26) :
    targetField (jType op target) = target := by
  unfold targetField jType fieldAt
  ext i hi
  simp only [BitVec.getElem_extractLsb']
  interval_cases i <;> simp

@[simp] theorem opField_codeType (op : BitVec 6) (code : BitVec 20) (funct : BitVec 6) :
    opField (codeType op code funct) = op := by
  unfold opField codeType fieldAt
  ext i hi
  simp only [BitVec.getElem_extractLsb']
  interval_cases i <;> simp

@[simp] theorem codeField_codeType (op : BitVec 6) (code : BitVec 20) (funct : BitVec 6) :
    codeField (codeType op code funct) = code := by
  unfold codeField codeType fieldAt
  ext i hi
  simp only [BitVec.getElem_extractLsb']
  interval_cases i <;> simp

@[simp] theorem functField_codeType (op : BitVec 6) (code : BitVec 20) (funct : BitVec 6) :
    functField (codeType op code funct) = funct := by
  unfold functField codeType fieldAt
  ext i hi
  simp only [BitVec.getElem_extractLsb']
  interval_cases i <;> simp

@[simp] theorem ccField_rType_ccAndSense (op : BitVec 6) (rs rd shamt : BitVec 5) (funct : BitVec 6) (cc : BitVec 3) (tf : BitVec 2) :
    ccField (rType op rs (ccAndSense cc tf) rd shamt funct) = cc := by
  unfold ccField rType ccAndSense fieldAt
  ext i hi
  simp only [BitVec.getElem_extractLsb']
  interval_cases i <;> simp

@[simp] theorem senseField_rType_ccAndSense (op : BitVec 6) (rs rd shamt : BitVec 5) (funct : BitVec 6) (cc : BitVec 3) (tf : BitVec 2) :
    senseField (rType op rs (ccAndSense cc tf) rd shamt funct) = tf := by
  unfold senseField rType ccAndSense fieldAt
  ext i hi
  simp only [BitVec.getElem_extractLsb']
  interval_cases i <;> simp

@[simp] theorem ccField_iType_ccAndSense (op : BitVec 6) (rs : BitVec 5) (imm : BitVec 16) (cc : BitVec 3) (tf : BitVec 2) :
    ccField (iType op rs (ccAndSense cc tf) imm) = cc := by
  unfold ccField iType ccAndSense fieldAt
  ext i hi
  simp only [BitVec.getElem_extractLsb']
  interval_cases i <;> simp

@[simp] theorem senseField_iType_ccAndSense (op : BitVec 6) (rs : BitVec 5) (imm : BitVec 16) (cc : BitVec 3) (tf : BitVec 2) :
    senseField (iType op rs (ccAndSense cc tf) imm) = tf := by
  unfold senseField iType ccAndSense fieldAt
  ext i hi
  simp only [BitVec.getElem_extractLsb']
  interval_cases i <;> simp

@[simp] theorem compareCcField_rType_ccOfCompare (op : BitVec 6) (rs rt rd : BitVec 5) (funct : BitVec 6) (cc : BitVec 3) :
    compareCcField (rType op rs rt rd (ccOfCompare cc) funct) = cc := by
  unfold compareCcField rType ccOfCompare fieldAt
  ext i hi
  simp only [BitVec.getElem_extractLsb']
  interval_cases i <;> simp

@[simp] theorem compareZeroField_rType_ccOfCompare (op : BitVec 6) (rs rt rd : BitVec 5) (funct : BitVec 6) (cc : BitVec 3) :
    compareZeroField (rType op rs rt rd (ccOfCompare cc) funct) = 0#2 := by
  unfold compareZeroField rType ccOfCompare fieldAt
  ext i hi
  simp only [BitVec.getElem_extractLsb']
  interval_cases i <;> simp

/-- The word that the bytes of a word make, in either byte order. -/
theorem wordOfBytes_natToBytes (be : Bool) (w : Word) : wordOfBytes be (Machine.natToBytes be 4 w.toNat) = w := by
  unfold wordOfBytes
  rw [List.take_of_length_le (by simp), Machine.bytesToNat_natToBytes]
  apply BitVec.eq_of_toNat_eq
  have := w.isLt
  simp only [BitVec.toNat_ofNat]
  omega

end Sys2Proof
end

