-- ==== Sys2Proof/Laws/Registers.lean ====
section
/-!
SUPPORT. Reading a register or a flag after writing one.
-/

namespace Sys2Proof.Machine

/-- Register 0 reads as 0. -/
@[simp] theorem State.getGpr_zero (s : State) : s.getGpr 0#5 = 0#32 := rfl

/-- A read after a write of a general register. -/
theorem State.getGpr_setGpr (s : State) (i r : Reg) (v : Word) :
    (s.setGpr i v).getGpr r = if r = i ∧ r ≠ 0#5 then v else s.getGpr r := by
  unfold State.getGpr State.setGpr
  by_cases hr : r = 0#5
  · simp [hr]
  · by_cases hri : r = i
    · subst hri
      simp [hr]
    · have hne : i.toNat ≠ r.toNat := fun h => hri (BitVec.eq_of_toNat_eq h.symm)
      by_cases hi : i = 0#5
      · simp [hr, hi]
      · simp [hr, hri, hi, hne]

/-- The register written, unless it is register 0, reads the value written. -/
theorem State.getGpr_setGpr_self (s : State) (i : Reg) (v : Word) (h : i ≠ 0#5) :
    (s.setGpr i v).getGpr i = v := by
  simp [State.getGpr_setGpr, h]

/-- Another register than the one written reads as before. -/
theorem State.getGpr_setGpr_other (s : State) (i r : Reg) (v : Word) (h : r ≠ i) :
    (s.setGpr i v).getGpr r = s.getGpr r := by
  simp [State.getGpr_setGpr, h]

/-- A write to register 0 is discarded. -/
@[simp] theorem State.setGpr_zero (s : State) (v : Word) : s.setGpr 0#5 v = s := rfl

/-- A read after a write of a floating-point register. -/
theorem State.getFpr_setFpr (s : State) (i r : FReg) (v : Word) :
    (s.setFpr i v).getFpr r = if r = i then v else s.getFpr r := by
  unfold State.getFpr State.setFpr
  by_cases hri : r = i
  · subst hri; simp
  · have hne : i.toNat ≠ r.toNat := fun h => hri (BitVec.eq_of_toNat_eq h.symm)
    simp [hri, hne]

/-- The two registers of a pair differ. -/
theorem pair_ne (i : FReg) : i ≠ i + 1#5 := by
  revert i; decide

/-- A read after a write of a double. -/
theorem State.getFpr_setDouble (s : State) (i r : FReg) (v : DWord) :
    (s.setDouble i v).getFpr r =
      if r = i then lowWord v else if r = i + 1#5 then highWord v else s.getFpr r := by
  unfold State.setDouble
  rw [State.getFpr_setFpr, State.getFpr_setFpr]
  by_cases h1 : r = i + 1#5
  · subst h1
    simp [(pair_ne i).symm]
  · simp [h1]

@[simp] theorem highWord_joinWords (h l : Word) : highWord (joinWords h l) = h := by
  ext k hk
  have h1 : 32 + k < 64 := by omega
  simp [highWord, joinWords, BitVec.getElem_extractLsb', hk, h1]

@[simp] theorem lowWord_joinWords (h l : Word) : lowWord (joinWords h l) = l := by
  ext k hk
  simp [lowWord, joinWords, BitVec.getElem_extractLsb', hk]
  omega

@[simp] theorem joinWords_parts (v : DWord) : joinWords (highWord v) (lowWord v) = v := by
  ext k hk
  by_cases h : k < 32
  · simp [highWord, lowWord, joinWords, h, hk]
  · simp [highWord, lowWord, joinWords, h, hk]
    have : k - 32 < 32 := by omega
    have h2 : 32 + (k - 32) = k := by omega
    simp [this, h2, BitVec.getLsbD_eq_getElem hk]

/-- The number of a joined pair. -/
theorem toNat_joinWords (h l : Word) : (joinWords h l).toNat = h.toNat * 2 ^ 32 + l.toNat := by
  have hh := h.isLt
  have hl := l.isLt
  unfold joinWords
  rw [BitVec.toNat_or, BitVec.toNat_shiftLeft, BitVec.toNat_setWidth, BitVec.toNat_setWidth,
    Nat.mod_eq_of_lt (by omega : h.toNat < 2 ^ 64), Nat.mod_eq_of_lt (by omega : l.toNat < 2 ^ 64),
    Nat.shiftLeft_eq, Nat.mod_eq_of_lt (by omega), Nat.mul_comm, Nat.two_pow_add_eq_or_of_lt hl]

/-- A double read after it was written to a pair. -/
theorem State.getDouble_setDouble (s : State) (i : FReg) (v : DWord) : (s.setDouble i v).getDouble i = v := by
  simp [State.getDouble, State.getFpr_setDouble, (pair_ne i).symm]

/-- A read after a write of a condition flag. -/
theorem State.getFcc_setFcc (s : State) (i c : CondFlag) (b : Bool) :
    (s.setFcc i b).getFcc c = if c = i then b else s.getFcc c := by
  unfold State.getFcc State.setFcc
  by_cases h : c = i
  · subst h; simp
  · have hne : i.toNat ≠ c.toNat := fun e => h (BitVec.eq_of_toNat_eq e.symm)
    simp [h, hne]

/-- The accumulator after it was written. -/
@[simp] theorem State.acc_setAcc (s : State) (v : DWord) : (s.setAcc v).acc = v := by
  simp [State.acc]

end Sys2Proof.Machine
end

