-- ==== Sys2Proof/Laws/Ops.lean ====
section
/-!
SUPPORT. For each shared operation, everything it can do, said once in the words of Safety.lean.
-/

namespace Sys2Proof.Machine

/-! ## How instructions end -/

/-- Going on changes nothing but control. -/
theorem State.advance_onlyWentOn (s : State) : s.onlyWentOn s.advance :=
  ⟨⟨fun _ => rfl, ⟨rfl, rfl⟩, fun _ => rfl, fun _ => rfl, ⟨rfl, rfl⟩, fun _ => rfl, ⟨rfl, rfl⟩, rfl⟩,
    ⟨rfl, rfl, rfl, rfl⟩, ⟨rfl, rfl, rfl⟩⟩

/-- What writing a general register and going on leaves. -/
theorem State.putGpr_wroteGpr (s : State) (i : Reg) (v : Word) :
    s.putGpr i v = .next (s.setGpr i v).advance ∧ s.wroteGpr (s.setGpr i v).advance i v :=
  ⟨rfl, fun r => by simp [State.getGpr_setGpr],
    ⟨⟨rfl, rfl⟩, ⟨rfl, rfl, rfl, rfl⟩, fun _ => rfl, fun _ => rfl, ⟨rfl, rfl⟩, fun _ => rfl, ⟨rfl, rfl⟩⟩, rfl,
    ⟨rfl, rfl, rfl⟩⟩

/-- What writing the accumulator and going on leaves. -/
theorem State.putAcc_wroteAcc (s : State) (v : DWord) :
    s.putAcc v = .next (s.setAcc v).advance ∧ s.wroteAcc (s.setAcc v).advance (highWord v) (lowWord v) :=
  ⟨rfl, rfl, rfl,
    ⟨fun _ => rfl, ⟨rfl, rfl, rfl, rfl⟩, fun _ => rfl, fun _ => rfl, ⟨rfl, rfl⟩, fun _ => rfl, ⟨rfl, rfl⟩⟩, rfl,
    ⟨rfl, rfl, rfl⟩⟩

/-- What writing a floating-point register and going on leaves. -/
theorem State.setFpr_wroteFpr (s : State) (i : FReg) (v : Word) : s.wroteFpr (s.setFpr i v).advance i v :=
  ⟨fun r => by simp [State.getFpr_setFpr],
    ⟨fun _ => rfl, ⟨rfl, rfl⟩, ⟨rfl, rfl, rfl, rfl⟩, fun _ => rfl, ⟨rfl, rfl⟩, fun _ => rfl, ⟨rfl, rfl⟩⟩, rfl,
    ⟨rfl, rfl, rfl⟩⟩

/-- What writing a double and going on leaves. -/
theorem State.setDouble_wroteFprPair (s : State) (i : FReg) (v : DWord) :
    s.wroteFprPair (s.setDouble i v).advance i v :=
  ⟨fun r => by simp [State.getFpr_setDouble],
    ⟨fun _ => rfl, ⟨rfl, rfl⟩, ⟨rfl, rfl, rfl, rfl⟩, fun _ => rfl, ⟨rfl, rfl⟩, fun _ => rfl, ⟨rfl, rfl⟩⟩, rfl,
    ⟨rfl, rfl, rfl⟩⟩

/-- A checked write either raises `Overflow` or writes. -/
theorem State.putChecked_cases (s : State) (i : Reg) (t : Int) :
    (overflows t = true ∧ s.putChecked i t = s.raise .overflow) ∨
      (overflows t = false ∧ s.putChecked i t = s.putGpr i (BitVec.ofInt 32 t)) := by
  unfold State.putChecked
  cases h : overflows t <;> simp

/-- A trap instruction either raises `Trap` or goes on. -/
theorem State.trapIf_eq (s : State) (c : Bool) :
    s.trapIf c = if c = true then s.raise .trap else .next s.advance := rfl

/-! ## Floating-point results (R402, R404) -/

/-- Everything that writing a single result does: the bits of a number, or a free NaN. -/
theorem State.putSingle_left (s : State) (fd : FReg) (r : FpResult) :
    ∃ t w, s.putSingle fd r = .next t ∧ s.leftFpr t fd w ∧
      ((∃ n, r = .bits n ∧ w = BitVec.ofNat 32 n) ∨ (r = .nan ∧ w = freeSingleNan s.freeDouble)) := by
  cases r with
  | bits n =>
    obtain ⟨h1, h2, -, h4⟩ := s.setFpr_wroteFpr fd (BitVec.ofNat 32 n)
    exact ⟨_, _, rfl, ⟨h1, h2, h4⟩, .inl ⟨n, rfl, rfl⟩⟩
  | nan =>
    obtain ⟨h1, h2, -, h4⟩ := s.setFpr_wroteFpr fd (freeSingleNan s.freeDouble)
    exact ⟨_, _, rfl, ⟨h1, h2, h4⟩, .inr ⟨rfl, rfl⟩⟩

/-- Everything that writing a double result does. -/
theorem State.putDouble_left (s : State) (fd : FReg) (r : FpResult) :
    ∃ t v, s.putDouble fd r = .next t ∧ s.leftFprPair t fd v ∧
      ((∃ n, r = .bits n ∧ v = BitVec.ofNat 64 n) ∨ (r = .nan ∧ v = freeDoubleNan s.freeDouble)) := by
  cases r with
  | bits n =>
    obtain ⟨h1, h2, -, h4⟩ := s.setDouble_wroteFprPair fd (BitVec.ofNat 64 n)
    exact ⟨_, _, rfl, ⟨h1, h2, h4⟩, .inl ⟨n, rfl, rfl⟩⟩
  | nan =>
    obtain ⟨h1, h2, -, h4⟩ := s.setDouble_wroteFprPair fd (freeDoubleNan s.freeDouble)
    exact ⟨_, _, rfl, ⟨h1, h2, h4⟩, .inr ⟨rfl, rfl⟩⟩

/-- Everything that writing a conversion to a word does: the word, or a free one. -/
theorem State.putWord_left (s : State) (fd : FReg) (r : Option Word) :
    ∃ t w, s.putWord fd r = .next t ∧ s.leftFpr t fd w ∧ (∀ v, r = some v → w = v) := by
  cases r with
  | some v =>
    obtain ⟨h1, h2, -, h4⟩ := s.setFpr_wroteFpr fd v
    exact ⟨_, _, rfl, ⟨h1, h2, h4⟩, fun _ h => Option.some.inj h⟩
  | none =>
    obtain ⟨h1, h2, -, h4⟩ := s.setFpr_wroteFpr fd (lowWord s.freeDouble)
    exact ⟨_, _, rfl, ⟨h1, h2, h4⟩, fun _ h => nomatch h⟩

/-- A single is delivered by IEEE 754 or by the other record (R4). -/
theorem State.deliverSingle_cases (s : State) (fd : FReg) (r : FpResult) (f : Config.NumericsRecord → Word) :
    (s.params.fpNumerics = .ieee ∧ s.deliverSingle fd r f = s.putSingle fd r) ∨
      (s.params.fpNumerics = .other ∧
        s.deliverSingle fd r f = .next (s.setFpr fd (f Config.otherNumerics)).advance) := by
  unfold State.deliverSingle
  cases s.params.fpNumerics <;> simp

/-- A double is delivered by IEEE 754 or by the other record (R4). -/
theorem State.deliverDouble_cases (s : State) (fd : FReg) (r : FpResult) (f : Config.NumericsRecord → DWord) :
    (s.params.fpNumerics = .ieee ∧ s.deliverDouble fd r f = s.putDouble fd r) ∨
      (s.params.fpNumerics = .other ∧
        s.deliverDouble fd r f = .next (s.setDouble fd (f Config.otherNumerics)).advance) := by
  unfold State.deliverDouble
  cases s.params.fpNumerics <;> simp

/-- A conversion to a word is delivered by R404 or by the other record (R4). -/
theorem State.deliverWord_cases (s : State) (fd : FReg) (r : Option Word) (f : Config.NumericsRecord → Word) :
    (s.params.fpNumerics = .ieee ∧ s.deliverWord fd r f = s.putWord fd r) ∨
      (s.params.fpNumerics = .other ∧
        s.deliverWord fd r f = .next (s.setFpr fd (f Config.otherNumerics)).advance) := by
  unfold State.deliverWord
  cases s.params.fpNumerics <;> simp

/-! ## Division (R194) -/

/-- Both pairs have R194's two properties. -/
theorem quotientPair_spec (b : Bool) (n d : Int) (hd : d ≠ 0) :
    n = (quotientPair b n d).1 * d + (quotientPair b n d).2 ∧ |(quotientPair b n d).2| < |d| := by
  have hm := Int.emod_add_mul_ediv n d
  have h0 := Int.emod_nonneg n hd
  have hlt := Int.emod_lt_abs n hd
  unfold quotientPair
  split
  · show n = n / d * d + n % d ∧ |n % d| < |d|
    exact ⟨by linarith [mul_comm d (n / d)], by rwa [abs_of_nonneg h0]⟩
  · next h =>
    simp only [Bool.or_eq_true, beq_iff_eq, not_or] at h
    have hpos : 0 < n % d := lt_of_le_of_ne h0 (Ne.symm h.2)
    refine ⟨?_, ?_⟩
    · have hs : d.sign * d = (d.natAbs : Int) := by
        rw [Int.sign_mul_self_eq_abs, Int.abs_eq_natAbs]
      show n = (n / d + d.sign) * d + (n % d - d.natAbs)
      rw [add_mul, hs]
      linarith [mul_comm d (n / d)]
    · show |n % d - (d.natAbs : Int)| < |d|
      rw [Int.abs_eq_natAbs d] at hlt ⊢
      rw [abs_of_neg (by linarith)]
      linarith

/-! ## Accesses -/

/-- What a map of regions allows. -/
theorem mapAllows_regions {p : Config.Params} {rs : List Config.Region} (h : p.memMap = .regions rs)
    (k : Config.Access) (a : Word) (n : Nat) : mapAllows p k a n = regionsAllow rs k a n := by
  simp [mapAllows, h]

/-- What a map that is a predicate allows. -/
theorem mapAllows_predicate {p : Config.Params} (h : p.memMap = .predicate) (k : Config.Access) (a : Word) (n : Nat) :
    mapAllows p k a n = Config.memMapPredicate k a n := by
  simp [mapAllows, h]

/-- The three outcomes of a read (R66). -/
theorem State.memRead_cases (s : State) (a : Word) (n : Nat) :
    (a.toNat % n ≠ 0 ∧ s.memRead a n = .error (.addressErrorLoad a)) ∨
      (a.toNat % n = 0 ∧ mapAllows s.params .read a n = true ∧ s.memRead a n = .ok (s.readValue a n)) ∨
      (a.toNat % n = 0 ∧ mapAllows s.params .read a n = false ∧ s.memRead a n = .error .busErrorData) := by
  unfold State.memRead
  by_cases h : a.toNat % n = 0
  · cases hm : mapAllows s.params .read a n <;> simp [h]
  · simp [h]

/-- The two outcomes of a store with no alignment check (R78). -/
theorem State.memStore_cases (s : State) (a : Word) (n v : Nat) :
    (mapAllows s.params .write a n = true ∧ s.memStore a n v = .ok (s.writeValue a n v)) ∨
      (mapAllows s.params .write a n = false ∧ s.memStore a n v = .error .busErrorData) := by
  unfold State.memStore
  cases hm : mapAllows s.params .write a n <;> simp

/-- The three outcomes of a write (R67). -/
theorem State.memWrite_cases (s : State) (a : Word) (n v : Nat) :
    (a.toNat % n ≠ 0 ∧ s.memWrite a n v = .error (.addressErrorStore a)) ∨
      (a.toNat % n = 0 ∧ mapAllows s.params .write a n = true ∧ s.memWrite a n v = .ok (s.writeValue a n v)) ∨
      (a.toNat % n = 0 ∧ mapAllows s.params .write a n = false ∧ s.memWrite a n v = .error .busErrorData) := by
  unfold State.memWrite State.memStore
  by_cases h : a.toNat % n = 0
  · cases hm : mapAllows s.params .write a n <;> simp [h]
  · simp [h]

/-- A state that goes on after a read came from a value or from trap entry. -/
theorem State.afterRead_next {s t : State} {r : Except Exc Nat} {k : Nat → Result} (h : s.afterRead r k = .next t) :
    (∃ v, r = .ok v ∧ k v = .next t) ∨ (∃ e, r = .error e ∧ t = s.takeException e) := by
  cases r with
  | ok v => exact .inl ⟨v, rfl, h⟩
  | error e => exact .inr ⟨e, rfl, by simpa [State.afterRead, State.raise] using h.symm⟩

/-- A state that goes on after a write came from the written state or from trap entry. -/
theorem State.afterWrite_next {s t : State} {r : Except Exc State} {k : State → Result}
    (h : s.afterWrite r k = .next t) :
    (∃ u, r = .ok u ∧ k u = .next t) ∨ (∃ e, r = .error e ∧ t = s.takeException e) := by
  cases r with
  | ok v => exact .inl ⟨v, rfl, h⟩
  | error e => exact .inr ⟨e, rfl, by simpa [State.afterWrite, State.raise] using h.symm⟩

/-! ## Refusals -/

/-- A control transfer goes on only outside a delay slot. -/
theorem State.unlessInDelaySlot_next {s t : State} {k : Result} (h : s.unlessInDelaySlot k = .next t) :
    s.inDelaySlot = false ∧ k = .next t := by
  unfold State.unlessInDelaySlot at h
  cases hd : s.inDelaySlot <;> simp_all

/-- A link instruction goes on only without the hazard. -/
theorem unlessLinkHazard_next {b : Bool} {t : State} {k : Result} (h : unlessLinkHazard b k = .next t) :
    b = false ∧ k = .next t := by
  unfold unlessLinkHazard at h
  cases hd : b <;> simp_all

/-- A double-precision instruction goes on only with even registers. -/
theorem whenEven_next {b : Bool} {t : State} {k : Result} (h : whenEven b k = .next t) :
    b = true ∧ k = .next t := by
  unfold whenEven at h
  cases hd : b <;> simp_all

/-! ## Exceptions -/

/-- The address an exception records, if it records one (R31). -/
def Exc.recorded : Exc → Option Word
  | .addressErrorLoad a => some a
  | .addressErrorStore a => some a
  | _ => none

theorem Exc.badAddress_eq (e : Exc) (old : Word) : e.badAddress old = e.recorded.getD old := by
  cases e <;> rfl

theorem statusEXL_setEXL (w : Word) : statusEXL (setEXL w) = true := by
  simp [statusEXL, setEXL]

theorem getLsbD_setEXL (w : Word) (k : Nat) (h : k ≠ 1) : (setEXL w).getLsbD k = w.getLsbD k := by
  by_cases hk : k < 32
  · have : (0x00000002#32).getLsbD k = false := by interval_cases k <;> simp_all
    simp only [setEXL, BitVec.getLsbD_or, this, Bool.or_false]
  · rw [BitVec.getLsbD_of_ge (i := k) (ge := (by omega : 32 ≤ k)), BitVec.getLsbD_of_ge (i := k) (ge := (by omega : 32 ≤ k))]

theorem getLsbD_clearEXL (w : Word) (k : Nat) (h : k ≠ 1) : (clearEXL w).getLsbD k = w.getLsbD k := by
  by_cases hk : k < 32
  · have : (0xFFFFFFFD#32).getLsbD k = true := by interval_cases k <;> simp_all
    simp only [clearEXL, BitVec.getLsbD_and, this, Bool.and_true]
  · rw [BitVec.getLsbD_of_ge (i := k) (ge := (by omega : 32 ≤ k)), BitVec.getLsbD_of_ge (i := k) (ge := (by omega : 32 ≤ k))]

theorem statusEXL_clearEXL (w : Word) : statusEXL (clearEXL w) = false := by
  simp [statusEXL, clearEXL]

theorem causeExcCode_setExcCode (c : BitVec 5) (w : Word) : causeExcCode (setExcCode c w) = c := by
  ext k hk
  simp only [causeExcCode, setExcCode, BitVec.getElem_extractLsb']
  interval_cases k <;> simp

theorem getLsbD_setExcCode (c : BitVec 5) (w : Word) (k : Nat) (h : k < 2 ∨ 7 ≤ k) :
    (setExcCode c w).getLsbD k = w.getLsbD k := by
  by_cases hk : k < 32
  · simp only [setExcCode, BitVec.getLsbD_or, BitVec.getLsbD_and, BitVec.getLsbD_shiftLeft, BitVec.getLsbD_setWidth]
    interval_cases k <;> simp_all
  · rw [BitVec.getLsbD_of_ge (i := k) (ge := (by omega : 32 ≤ k)), BitVec.getLsbD_of_ge (i := k) (ge := (by omega : 32 ≤ k))]

theorem getLsbD_setBD (b : Bool) (w : Word) (k : Nat) (h : k ≠ 31) : (setBD b w).getLsbD k = w.getLsbD k := by
  by_cases hk : k < 31
  · cases b
    · have : (0x7FFFFFFF#32).getLsbD k = true := by interval_cases k <;> simp_all
      simp only [setBD, BitVec.getLsbD_and, this, Bool.and_true, Bool.false_eq_true, if_false]
    · have : (0x80000000#32).getLsbD k = false := by interval_cases k <;> simp_all
      simp only [setBD, BitVec.getLsbD_or, this, Bool.or_false, if_true]
  · rw [BitVec.getLsbD_of_ge (i := k) (ge := (by omega : 32 ≤ k)), BitVec.getLsbD_of_ge (i := k) (ge := (by omega : 32 ≤ k))]

theorem causeBD_setBD (b : Bool) (w : Word) : causeBD (setBD b w) = b := by
  cases b <;> simp [causeBD, setBD]

/-- What trap entry leaves (R506, R508). -/
theorem State.takeException_trapEntered (s : State) (e : Exc) :
    s.trapEntered (s.takeException e) e.code e.recorded := by
  refine ⟨⟨fun _ => rfl, ⟨rfl, rfl⟩, fun _ => rfl, fun _ => rfl, ⟨rfl, rfl⟩, fun _ => rfl, ⟨rfl, rfl⟩, rfl⟩, rfl, rfl,
    rfl, statusEXL_setEXL _, fun k hk => getLsbD_setEXL _ k hk, causeExcCode_setExcCode _ _, ?_, ?_, ?_,
    Exc.badAddress_eq _ _⟩
  · intro k hk h31
    rw [State.takeException_cause, getLsbD_setExcCode _ _ _ hk]
    split
    · rfl
    · exact getLsbD_setBD _ _ _ h31
  · intro h
    refine ⟨by simp [h], ?_⟩
    simp only [State.takeException_cause, causeBD, h, if_true]
    exact getLsbD_setExcCode _ _ _ (by omega)
  · intro h
    refine ⟨by simp [h], ?_⟩
    simp only [State.takeException_cause, causeBD, h, Bool.false_eq_true, if_false]
    rw [getLsbD_setExcCode _ _ _ (by omega)]
    exact causeBD_setBD _ _

/-- What the return from an exception leaves (R480, R509). -/
theorem State.returnFromException_eq (s : State) :
    s.returnFromException =
      { s with status := clearEXL s.status, llBit := false, pc := s.epc, npc := s.epc + 4#32, inDelaySlot := false } :=
  rfl

/-! ## The host and the outside world -/

theorem foldl_keeps {α β γ : Type} (f : α → β → α) (g : α → γ) (h : ∀ a b, g (f a b) = g a) (l : List β) (a : α) :
    g (l.foldl f a) = g a := by
  induction l generalizing a with
  | nil => rfl
  | cons x l ih => simp [ih, h]

theorem foldl_invariant {α β : Type} (f : α → β → α) (P : α → Prop) (h : ∀ a b, P a → P (f a b)) (l : List β) (a : α)
    (ha : P a) : P (l.foldl f a) := by
  induction l generalizing a with
  | nil => exact ha
  | cons x l ih => exact ih _ (h _ _ ha)

/-- What a host service does not write it keeps. -/
theorem State.applyHostEffect_keeps {γ : Type} (g : State → γ) (hg : ∀ t i v, g (State.setGpr t i v) = g t)
    (hf : ∀ t i v, g (State.setFpr t i v) = g t) (hm : ∀ (t : State) m, g { t with mem := m } = g t) (s : State)
    (e : Config.HostEffect) : g (s.applyHostEffect e) = g s := by
  unfold State.applyHostEffect
  exact (foldl_keeps _ g (fun t _ => hm t _) _ _).trans
    ((foldl_keeps _ g (fun t _ => hf t _ _) _ _).trans (foldl_keeps _ g (fun t _ => hg t _ _) _ _))

/-- What the writes of a host service preserve, the service preserves. -/
theorem State.applyHostEffect_invariant (P : State → Prop) (hg : ∀ t i v, P t → P (State.setGpr t i v))
    (hf : ∀ t i v, P t → P (State.setFpr t i v))
    (hm : ∀ (t : State) (a : Word) (b : Byte), P t → P { t with mem := Memory.write t.mem a.toNat b }) (s : State)
    (e : Config.HostEffect) (h : P s) : P (s.applyHostEffect e) := by
  unfold State.applyHostEffect
  exact foldl_invariant _ P (fun t w ht => hm t _ _ ht) _ _
    (foldl_invariant _ P (fun t w ht => hf t _ _ ht) _ _ (foldl_invariant _ P (fun t w ht => hg t _ _ ht) _ _ h))

/-- A host service writes general registers, floating-point registers and memory only. -/
theorem State.applyHostEffect_frame (s : State) (e : Config.HostEffect) :
    (s.applyHostEffect e).pc = s.pc ∧
      (s.applyHostEffect e).npc = s.npc ∧
      (s.applyHostEffect e).inDelaySlot = s.inDelaySlot ∧
      (s.applyHostEffect e).hi = s.hi ∧
      (s.applyHostEffect e).lo = s.lo ∧
      (s.applyHostEffect e).status = s.status ∧
      (s.applyHostEffect e).cause = s.cause ∧
      (s.applyHostEffect e).epc = s.epc ∧
      (s.applyHostEffect e).badVAddr = s.badVAddr ∧
      (s.applyHostEffect e).fcc = s.fcc ∧
      (s.applyHostEffect e).llBit = s.llBit ∧
      (s.applyHostEffect e).llAddr = s.llAddr ∧
      (s.applyHostEffect e).params = s.params ∧
      (s.applyHostEffect e).inputs = s.inputs ∧
      (s.applyHostEffect e).draws = s.draws :=
  ⟨State.applyHostEffect_keeps State.pc (fun _ _ _ => rfl) (fun _ _ _ => rfl) (fun _ _ => rfl) s e,
    State.applyHostEffect_keeps State.npc (fun _ _ _ => rfl) (fun _ _ _ => rfl) (fun _ _ => rfl) s e,
    State.applyHostEffect_keeps State.inDelaySlot (fun _ _ _ => rfl) (fun _ _ _ => rfl) (fun _ _ => rfl) s e,
    State.applyHostEffect_keeps State.hi (fun _ _ _ => rfl) (fun _ _ _ => rfl) (fun _ _ => rfl) s e,
    State.applyHostEffect_keeps State.lo (fun _ _ _ => rfl) (fun _ _ _ => rfl) (fun _ _ => rfl) s e,
    State.applyHostEffect_keeps State.status (fun _ _ _ => rfl) (fun _ _ _ => rfl) (fun _ _ => rfl) s e,
    State.applyHostEffect_keeps State.cause (fun _ _ _ => rfl) (fun _ _ _ => rfl) (fun _ _ => rfl) s e,
    State.applyHostEffect_keeps State.epc (fun _ _ _ => rfl) (fun _ _ _ => rfl) (fun _ _ => rfl) s e,
    State.applyHostEffect_keeps State.badVAddr (fun _ _ _ => rfl) (fun _ _ _ => rfl) (fun _ _ => rfl) s e,
    State.applyHostEffect_keeps State.fcc (fun _ _ _ => rfl) (fun _ _ _ => rfl) (fun _ _ => rfl) s e,
    State.applyHostEffect_keeps State.llBit (fun _ _ _ => rfl) (fun _ _ _ => rfl) (fun _ _ => rfl) s e,
    State.applyHostEffect_keeps State.llAddr (fun _ _ _ => rfl) (fun _ _ _ => rfl) (fun _ _ => rfl) s e,
    State.applyHostEffect_keeps State.params (fun _ _ _ => rfl) (fun _ _ _ => rfl) (fun _ _ => rfl) s e,
    State.applyHostEffect_keeps State.inputs (fun _ _ _ => rfl) (fun _ _ _ => rfl) (fun _ _ => rfl) s e,
    State.applyHostEffect_keeps State.draws (fun _ _ _ => rfl) (fun _ _ _ => rfl) (fun _ _ => rfl) s e⟩

theorem State.applyHostEffect_wf (s : State) (e : Config.HostEffect) (h : s.mem.wf = true) :
    (s.applyHostEffect e).mem.wf = true :=
  State.applyHostEffect_invariant (fun t => t.mem.wf = true) (fun _ _ _ ht => ht) (fun _ _ _ ht => ht)
    (fun t a _ ht => Memory.wf_write t.mem a.toNat _ ht a.isLt) s e h

theorem State.setGpr_zeroEntry (s : State) (i : Reg) (v : Word) (h : s.gpr[0] = 0#32) :
    (s.setGpr i v).gpr[0] = 0#32 := by
  unfold State.setGpr
  by_cases hi : i = 0#5
  · simp [hi, h]
  · have : i.toNat ≠ 0 := fun e => hi (BitVec.eq_of_toNat_eq e)
    simp [hi, h, this]

theorem State.applyHostEffect_zeroEntry (s : State) (e : Config.HostEffect) (h : s.gpr[0] = 0#32) :
    (s.applyHostEffect e).gpr[0] = 0#32 :=
  State.applyHostEffect_invariant (fun t => t.gpr[0] = 0#32) (fun t i v ht => State.setGpr_zeroEntry t i v ht)
    (fun _ _ _ ht => ht) (fun _ _ _ ht => ht) s e h

/-- The outside world changes memory, the reservation bit, the interrupt lines and the list of inputs only. -/
theorem State.sampleInputs_frame (s : State) :
    s.sampleInputs.gpr = s.gpr ∧ s.sampleInputs.pc = s.pc ∧ s.sampleInputs.npc = s.npc ∧
      s.sampleInputs.inDelaySlot = s.inDelaySlot ∧ s.sampleInputs.hi = s.hi ∧ s.sampleInputs.lo = s.lo ∧
      s.sampleInputs.status = s.status ∧ s.sampleInputs.cause = setHardwareIP s.currentEvent.lines s.cause ∧
      s.sampleInputs.epc = s.epc ∧ s.sampleInputs.badVAddr = s.badVAddr ∧ s.sampleInputs.fpr = s.fpr ∧
      s.sampleInputs.fcc = s.fcc ∧ s.sampleInputs.llAddr = s.llAddr ∧ s.sampleInputs.params = s.params ∧
      s.sampleInputs.inputs = s.inputs.tail ∧ s.sampleInputs.draws = s.draws := by
  have key : ∀ {γ : Type} (g : State → γ) (_ : ∀ t w, g (State.otherAgentWrites t w) = g t),
      g (s.currentEvent.writes.foldl State.otherAgentWrites s) = g s :=
    fun g hg => foldl_keeps _ g hg _ _
  unfold State.sampleInputs
  refine ⟨?_, ?_, ?_, ?_, ?_, ?_, ?_, ?_, ?_, ?_, ?_, ?_, ?_, ?_, rfl, ?_⟩
  · exact key State.gpr fun _ _ => rfl
  · exact key State.pc fun _ _ => rfl
  · exact key State.npc fun _ _ => rfl
  · exact key State.inDelaySlot fun _ _ => rfl
  · exact key State.hi fun _ _ => rfl
  · exact key State.lo fun _ _ => rfl
  · exact key State.status fun _ _ => rfl
  · exact congrArg (setHardwareIP s.currentEvent.lines) (key State.cause fun _ _ => rfl)
  · exact key State.epc fun _ _ => rfl
  · exact key State.badVAddr fun _ _ => rfl
  · exact key State.fpr fun _ _ => rfl
  · exact key State.fcc fun _ _ => rfl
  · exact key State.llAddr fun _ _ => rfl
  · exact key State.params fun _ _ => rfl
  · exact key State.draws fun _ _ => rfl

theorem State.sampleInputs_wf (s : State) (h : s.mem.wf = true) : s.sampleInputs.mem.wf = true :=
  foldl_invariant _ (fun t : State => t.mem.wf = true) (fun t w ht => State.otherAgentWrites_wf t w ht) _ s h

/-! ## The step -/

/-- The four things a step can do (R10). -/
theorem step_cases (s : State) :
    (s.sampleInputs.interruptPending = true ∧ step s = s.sampleInputs.raise .interrupt) ∨
      (s.sampleInputs.interruptPending = false ∧
        ((∃ e, s.sampleInputs.fetch s.pc = .error e ∧ step s = s.sampleInputs.raise e) ∨
          (∃ w, s.sampleInputs.fetch s.pc = .ok w ∧
            ((∃ d, decode s.params w = .error d ∧ step s = s.sampleInputs.raise .reservedInstruction) ∨
              (∃ i, decode s.params w = .ok i ∧ step s = exec i s.sampleInputs))))) := by
  have hpc : s.sampleInputs.pc = s.pc := s.sampleInputs_frame.2.1
  have hpar : s.sampleInputs.params = s.params := s.sampleInputs_frame.2.2.2.2.2.2.2.2.2.2.2.2.2.1
  unfold step State.interruptOrRun State.fetchAndRun State.runWord
  rw [hpc, hpar]
  cases hi : s.sampleInputs.interruptPending
  · right
    refine ⟨rfl, ?_⟩
    cases hf : s.sampleInputs.fetch s.pc with
    | error e => exact .inl ⟨e, rfl, by simp⟩
    | ok w =>
      right
      refine ⟨w, rfl, ?_⟩
      cases hd : decode s.params w with
      | error d => exact .inl ⟨d, rfl, by simp [hd]⟩
      | ok i => exact .inr ⟨i, rfl, by simp [hd]⟩
  · left
    simp

end Sys2Proof.Machine
end

