-- ==== Sys2Proof/Tests/Slice0.lean ====
section
/-!
SUPPORT. Tests on fixed values. The words and the expected values are those of spec/95_test_vectors.md, sections 2.0 to
2.8, unless a line says otherwise; then the witnesses: for each obligation with hypotheses a state that meets them.
-/

namespace Sys2Proof.Tests

open Sys2Proof Sys2Proof.Machine

/-! ## Helpers -/

/-- After reset, but at 0x00400000 and with the general registers given. -/
def start (regs : List (Reg × Word)) : State :=
  regs.foldl (fun s r => s.setGpr r.1 r.2) { State.reset with pc := 0x00400000#32, npc := 0x00400004#32 }

/-- The same with floating-point registers. -/
def startF (regs : List (FReg × Word)) : State := regs.foldl (fun s r => s.setFpr r.1 r.2) (start [])

/-- The setting of section 2.5: `x[9]` = 0x10010000 and eight bytes there, in the byte order given. -/
def startM (bigEndian : Bool) (x8 : Word) : State :=
  { start [(8, x8), (9, 0x10010000)] with
    params := { defaultParams with bigEndian := bigEndian }
    mem := [(0x10010000, 0x80), (0x10010001, 0x91), (0x10010002, 0xA2), (0x10010003, 0xB3), (0x10010004, 0x04),
      (0x10010005, 0x15), (0x10010006, 0x26), (0x10010007, 0x37)] }

/-- The state of section 2.8. -/
def startE : State := { State.reset with pc := 0x00400010#32, npc := 0x00400014#32, status := 0x0000FF01#32 }

/-- The next state of a step that finds the word at `pc`. -/
def after (w : Word) (s : State) : Option State :=
  match step (s.withFetchWord 32 w.toNat) with
  | .next t => some t
  | .fault _ => none
  | .refused _ => none

/-- Each case: `x[9]`, `x[10]`, and `x[8]` after the word, which went on to the next instruction. -/
def gives (w : Word) (cases : List (Word × Word × Word)) : Bool :=
  cases.all fun c =>
    match after w (start [(9, c.1), (10, c.2.1)]) with
    | some t => t.getGpr 8 == c.2.2 && t.pc == 0x00400004#32 && t.npc == 0x00400008#32
    | none => false

/-- Each case: `x[9]`, `x[10]`, with which the word takes the exception whose `Cause` is given, from `x[8]` = 77. -/
def raises (w cause : Word) (cases : List (Word × Word)) : Bool :=
  cases.all fun c =>
    match after w (start [(8, 77), (9, c.1), (10, c.2)]) with
    | some t =>
      t.cause == cause && t.epc == 0x00400000#32 && t.status == 2#32 && t.pc == 0x80000180#32 && t.getGpr 8 == 77#32
    | none => false

/-- Each case: `x[9]`, `x[10]`, `hi`, `lo` before, `hi`, `lo` after. -/
def givesAcc (p : Config.Params) (w : Word) (cases : List (Word × Word × Word × Word × Word × Word)) : Bool :=
  cases.all fun (a, b, hi, lo, hi', lo') =>
    match after w { start [(9, a), (10, b)] with hi := hi, lo := lo, params := p } with
    | some t => t.hi == hi' && t.lo == lo'
    | none => false

/-- The word in the state gives these `pc` and `npc`, this delay-slot bit and this `x[31]`. -/
def goes (w : Word) (s : State) (pc npc : Word) (slot : Bool) (ra : Word) : Bool :=
  match after w s with
  | some t => t.pc == pc && t.npc == npc && t.inDelaySlot == slot && t.getGpr 31 == ra
  | none => false

/-- `x[8]` after the word under each byte order: big-endian, little-endian. -/
def loads (w big little : Word) : Bool :=
  [(true, big), (false, little)].all fun c => ((after w (startM c.1 0)).map (·.getGpr 8)) == some c.2

/-- The eight bytes at 0x10010000 as one number, the lowest address first. -/
def eightBytes (s : State) : Nat := bytesToNat true (Memory.readBytes s.mem 0x10010000#32 8)

/-- The eight bytes after the word under each byte order, from `x[8]` = `f[2]` = 0x11223344, `f[3]` = 0xAABBCCDD. -/
def storesBytes (w : Word) (big little : Nat) : Bool :=
  [(true, big), (false, little)].all fun c =>
    (after w (((startM c.1 0x11223344).setFpr 2 0x11223344).setFpr 3 0xAABBCCDD)).map eightBytes == some c.2

/-- Each case: `f[2]`, `f[4]`, and `f[0]` after the word. -/
def givesF (w : Word) (cases : List (Word × Word × Word)) : Bool :=
  cases.all fun c => ((after w (startF [(2, c.1), (4, c.2.1)])).map (·.getFpr 0)) == some c.2.2

/-- Each case: `fd[2]`, `fd[4]`, and `fd[0]` after the word. -/
def givesD (w : Word) (cases : List (DWord × DWord × DWord)) : Bool :=
  cases.all fun c =>
    ((after w (((start []).setDouble 2 c.1).setDouble 4 c.2.1)).map (·.getDouble 0)) == some c.2.2

/-- Each case: `fd[2]`, `fd[4]`, and flag 0 after the word, which leaves flag 1 as it was. -/
def compares (w : Word) (cases : List (DWord × DWord × Bool)) : Bool :=
  cases.all fun c =>
    match after w ((((start []).setDouble 2 c.1).setDouble 4 c.2.1).setFcc 1 true) with
    | some t => t.getFcc 0 == c.2.2 && t.getFcc 1
    | none => false

/-- The decoder reads the instruction from each word under the default parameters, and the encoder writes the word. -/
def written (rows : List (Word × Instr)) : Bool :=
  rows.all fun r =>
    (match decode defaultParams r.1 with
      | .ok i => i == r.2
      | .error _ => false) && encode r.2 == r.1

/-- No row of the table has the word. -/
def reserved (p : Config.Params) (w : Word) : Bool :=
  match decode p w with
  | .ok _ => false
  | .error _ => true

/-- The defaults without `STRICT_ZERO_FIELDS`. -/
def relaxed : Config.Params := { defaultParams with strictZeroFields := false }

/-- The defaults without `ADMIT_LIKELY`. -/
def noLikely : Config.Params := { defaultParams with admitLikely := false }

/-- The defaults with another record of numerics. -/
def otherNumbers : Config.Params := { defaultParams with fpNumerics := .other }

/-- The defaults without delay slots. -/
def noDelay : Config.Params := { defaultParams with delayedBranches := false }

/-! ## Well-formedness: each check refuses an ill-formed term -/

theorem test_sll_zero_is_not_well_formed : Instr.wellFormed defaultParams (.sll 0 0 0) = false := by decide

theorem test_likely_not_well_formed_unless_admitted :
    [Instr.bc1fl 0 0, .bc1tl 0 0, .beql 0 0 0, .bgezl 0 0, .bgezall 0 0, .bgtzl 0 0, .blezl 0 0, .bltzall 0 0,
      .bltzl 0 0, .bnel 0 0 0].all (fun i => !i.wellFormed noLikely && i.wellFormed defaultParams) := by decide

/-! ## Decoding: every row, from the word the spec writes out (section 2.0) -/

theorem test_decode_arithmetic : written [
    (0x012A4020, .add 8 9 10), (0x012A4021, .addu 8 9 10), (0x212AFFFE, .addi 10 9 0xFFFE),
    (0x252AFFFE, .addiu 10 9 0xFFFE), (0x012A4024, .and 8 9 10), (0x312AFFFE, .andi 10 9 0xFFFE),
    (0x71204021, .clo 8 9), (0x71204020, .clz 8 9), (0x012A001A, .div 9 10), (0x012A001B, .divu 9 10),
    (0x012A0018, .mult 9 10), (0x012A0019, .multu 9 10), (0x712A4002, .mul 8 9 10), (0x712A0000, .madd 9 10),
    (0x712A0001, .maddu 9 10), (0x712A0004, .msub 9 10), (0x712A0005, .msubu 9 10), (0x012A4027, .nor 8 9 10),
    (0x012A4025, .or 8 9 10), (0x352AFFFE, .ori 10 9 0xFFFE), (0x000A4100, .sll 8 10 4), (0x012A4004, .sllv 8 10 9),
    (0x000A4103, .sra 8 10 4), (0x012A4007, .srav 8 10 9), (0x000A4102, .srl 8 10 4), (0x012A4006, .srlv 8 10 9),
    (0x012A4022, .sub 8 9 10), (0x012A4023, .subu 8 9 10), (0x012A4026, .xor 8 9 10), (0x392AFFFE, .xori 10 9 0xFFFE)] := by
  decide

theorem test_decode_comparison : written [
    (0x3C0AFFFE, .lui 10 0xFFFE), (0x012A402A, .slt 8 9 10), (0x012A402B, .sltu 8 9 10),
    (0x292AFFFE, .slti 10 9 0xFFFE), (0x2D2AFFFE, .sltiu 10 9 0xFFFE)] := by decide

theorem test_decode_branch : written [
    (0x45080003, .bc1f 2 3), (0x45090003, .bc1t 2 3), (0x112A0003, .beq 9 10 3), (0x05210003, .bgez 9 3),
    (0x05310003, .bgezal 9 3), (0x1D200003, .bgtz 9 3), (0x19200003, .blez 9 3), (0x05300003, .bltzal 9 3),
    (0x05200003, .bltz 9 3), (0x152A0003, .bne 9 10 3), (0x450A0003, .bc1fl 2 3), (0x450B0003, .bc1tl 2 3),
    (0x512A0003, .beql 9 10 3), (0x05230003, .bgezl 9 3), (0x05330003, .bgezall 9 3), (0x5D200003, .bgtzl 9 3),
    (0x59200003, .blezl 9 3), (0x05320003, .bltzall 9 3), (0x05220003, .bltzl 9 3), (0x552A0003, .bnel 9 10 3)] := by
  decide

theorem test_decode_jump : written [
    (0x08100008, .j 0x100008), (0x0C100008, .jal 0x100008), (0x01204009, .jalr 9 8), (0x01200008, .jr 9)] := by
  decide

theorem test_decode_trap : written [
    (0x012A0034, .teq 9 10), (0x052CFFFE, .teqi 9 0xFFFE), (0x012A0036, .tne 9 10), (0x052EFFFE, .tnei 9 0xFFFE),
    (0x012A0030, .tge 9 10), (0x012A0031, .tgeu 9 10), (0x0528FFFE, .tgei 9 0xFFFE), (0x0529FFFE, .tgeiu 9 0xFFFE),
    (0x012A0032, .tlt 9 10), (0x012A0033, .tltu 9 10), (0x052AFFFE, .tlti 9 0xFFFE), (0x052BFFFE, .tltiu 9 0xFFFE)] := by
  decide

theorem test_decode_load_store : written [
    (0x812A0003, .lb 10 3 9), (0x912A0003, .lbu 10 3 9), (0x852A0003, .lh 10 3 9), (0x952A0003, .lhu 10 3 9),
    (0x8D2A0003, .lw 10 3 9), (0xC5260003, .lwc1 6 3 9), (0xD5260003, .ldc1 6 3 9), (0x892A0003, .lwl 10 3 9),
    (0x992A0003, .lwr 10 3 9), (0xC12A0003, .ll 10 3 9), (0xA12A0003, .sb 10 3 9), (0xA52A0003, .sh 10 3 9),
    (0xAD2A0003, .sw 10 3 9), (0xE5260003, .swc1 6 3 9), (0xF5260003, .sdc1 6 3 9), (0xA92A0003, .swl 10 3 9),
    (0xB92A0003, .swr 10 3 9), (0xE12A0003, .sc 10 3 9)] := by decide

theorem test_decode_data_movement : written [
    (0x00004010, .mfhi 8), (0x00004012, .mflo 8), (0x01200011, .mthi 9), (0x01200013, .mtlo 9),
    (0x400A4000, .mfc0 10 8), (0x440A2000, .mfc1 10 4), (0x408A4000, .mtc0 10 8), (0x448A2000, .mtc1 10 4),
    (0x012A400B, .movn 8 9 10), (0x012A400A, .movz 8 9 10), (0x01284001, .movf 8 9 2), (0x01294001, .movt 8 9 2)] := by
  decide

theorem test_decode_floating_point : written [
    (0x46202085, .absD 2 4), (0x46002085, .absS 2 4), (0x46262080, .addD 2 4 6), (0x46062080, .addS 2 4 6),
    (0x4620208E, .ceilWD 2 4), (0x4600208E, .ceilWS 2 4), (0x46262232, .cEqD 2 4 6), (0x46062232, .cEqS 2 4 6),
    (0x4626223E, .cLeD 2 4 6), (0x4606223E, .cLeS 2 4 6), (0x4626223C, .cLtD 2 4 6), (0x4606223C, .cLtS 2 4 6),
    (0x460020A1, .cvtDS 2 4), (0x468020A1, .cvtDW 2 4), (0x462020A0, .cvtSD 2 4), (0x468020A0, .cvtSW 2 4),
    (0x462020A4, .cvtWD 2 4), (0x460020A4, .cvtWS 2 4)] := by decide

theorem test_decode_floating_point_more : written [
    (0x46262083, .divD 2 4 6), (0x46062083, .divS 2 4 6), (0x4620208F, .floorWD 2 4), (0x4600208F, .floorWS 2 4),
    (0x46202086, .movD 2 4), (0x46002086, .movS 2 4), (0x46282091, .movfD 2 4 2), (0x46082091, .movfS 2 4 2),
    (0x46292091, .movtD 2 4 2), (0x46092091, .movtS 2 4 2), (0x462A2093, .movnD 2 4 10), (0x460A2093, .movnS 2 4 10),
    (0x462A2092, .movzD 2 4 10), (0x460A2092, .movzS 2 4 10), (0x46262082, .mulD 2 4 6), (0x46062082, .mulS 2 4 6),
    (0x46202087, .negD 2 4), (0x46002087, .negS 2 4), (0x4620208C, .roundWD 2 4), (0x4600208C, .roundWS 2 4),
    (0x46202084, .sqrtD 2 4), (0x46002084, .sqrtS 2 4), (0x46262081, .subD 2 4 6), (0x46062081, .subS 2 4 6),
    (0x4620208D, .truncWD 2 4), (0x4600208D, .truncWS 2 4)] := by decide

theorem test_decode_exception : written [
    (0x42000018, .eret), (0x0000000C, .syscall), (0x0000018D, .brk 6), (0x00000000, .nop)] := by decide

theorem test_reserved_words :
    [0xFFFFFFFF, 0x7C000000, 0x48000000, 0x4C000000, 0x0000000F, 0xBC000000, 0xCC000000, 0x42000019, 0x42000002,
      0x41000018, 0x05240000, 0x46A00020, 0x012A4060, 0x03E00408, 0x0000040C, 0x712A4020, 0x012A0074].all
      (reserved defaultParams) := by decide

theorem test_relaxed_words :
    (decode relaxed 0x03E00408 = .ok (.jr 31)) ∧ (decode relaxed 0x0000040C = .ok .syscall) ∧
      (decode relaxed 0x712A4020 = .ok (.clz 8 9)) ∧ (decode relaxed 0x012A0074 = .ok (.teq 9 10)) ∧
      reserved relaxed 0x012A4060 := ⟨rfl, rfl, rfl, rfl, rfl⟩

theorem test_likely_words_reserved_unless_admitted :
    [0x450A0003, 0x450B0003, 0x512A0003, 0x05230003, 0x05330003, 0x5D200003, 0x59200003, 0x05320003, 0x05220003,
      0x552A0003].all (reserved noLikely) := by decide

theorem test_ignored_field_of_sll : decode defaultParams 0x03E94100 = .ok (.sll 8 9 4) := rfl

/-! ## Arithmetic and logical instructions (section 2.1) -/

theorem test_add : gives 0x012A4020 [(5, 7, 0xC), (0x7FFFFFFF, 0xFFFFFFFF, 0x7FFFFFFE)] := by decide
theorem test_add_overflows : raises 0x012A4020 0x30 [(0x7FFFFFFF, 1), (0x80000000, 0xFFFFFFFF),
    (0x80000000, 0x80000000)] && raises 0x012A0020 0x30 [(0x7FFFFFFF, 1)] := by decide
theorem test_addu : gives 0x012A4021 [(0x7FFFFFFF, 1, 0x80000000), (0xFFFFFFFF, 1, 0)] := by decide
theorem test_addi : gives 0x2128FFFF [(0, 0, 0xFFFFFFFF)] := by decide
theorem test_addi_overflows : raises 0x2128FFFF 0x30 [(0x80000000, 0)] && raises 0x21287FFF 0x30 [(0x7FFF8001, 0)] := by
  decide
theorem test_addiu : gives 0x2528FFFF [(0x80000000, 0, 0x7FFFFFFF)] && gives 0x25288000 [(0, 0, 0xFFFF8000)] := by
  decide
theorem test_and : gives 0x012A4024 [(0xF0F0F0F0, 0xFF00FF00, 0xF000F000)] := by decide
theorem test_or : gives 0x012A4025 [(0xF0F0F0F0, 0xFF00FF00, 0xFFF0FFF0)] := by decide
theorem test_xor : gives 0x012A4026 [(0xF0F0F0F0, 0xFF00FF00, 0x0FF00FF0)] := by decide
theorem test_nor : gives 0x012A4027 [(0xF0F0F0F0, 0xFF00FF00, 0x000F000F)] := by decide
theorem test_andi : gives 0x3128FF00 [(0xFFFFFFFF, 0, 0xFF00)] := by decide
theorem test_ori : gives 0x35281234 [(0xFFFF0000, 0, 0xFFFF1234)] && gives 0x3528FFFF [(0, 0, 0xFFFF)] := by
  decide
theorem test_xori : gives 0x3928FFFF [(0xFFFFFFFF, 0, 0xFFFF0000)] := by decide
theorem test_clo : gives 0x71204021 [(0xFFFFFFFF, 0, 32), (0xFFFF0000, 0, 16), (0x7FFFFFFF, 0, 0)] := by
  decide
theorem test_clz : gives 0x71204020 [(0, 0, 32), (0x00010000, 0, 15), (0x80000000, 0, 0)] := by decide
theorem test_sub : gives 0x012A4022 [(5, 7, 0xFFFFFFFE)] := by decide
theorem test_sub_overflows : raises 0x012A4022 0x30 [(0x80000000, 1), (0, 0x80000000), (0x7FFFFFFF, 0xFFFFFFFF)] := by
  decide
theorem test_subu : gives 0x012A4023 [(0, 1, 0xFFFFFFFF), (0x80000000, 1, 0x7FFFFFFF)] := by decide
theorem test_sll : gives 0x00094100 [(0xF000000F, 0, 0xF0)] && gives 0x00094000 [(0xF000000F, 0, 0xF000000F)] &&
    gives 0x000947C0 [(3, 0, 0x80000000)] && gives 0x03E94100 [(0xF000000F, 0, 0xF0)] := by decide
theorem test_srl : gives 0x00094102 [(0xF000000F, 0, 0x0F000000)] && gives 0x000947C2 [(0x80000000, 0, 1)] := by
  decide
theorem test_sra : gives 0x00094103 [(0xF000000F, 0, 0xFF000000)] && gives 0x000947C3 [(0x80000000, 0, 0xFFFFFFFF),
    (0x7FFFFFFF, 0, 0)] := by decide
theorem test_sllv : gives 0x01494004 [(1, 0x24, 0x10), (0x12345678, 0x20, 0x12345678)] := by decide
theorem test_srlv : gives 0x01494006 [(0x80000000, 0x3F, 1)] := by decide
theorem test_srav : gives 0x01494007 [(0x80000000, 0x3F, 0xFFFFFFFF), (0x80000000, 0xFFFFFFE0, 0x80000000)] := by
  decide
theorem test_mult : givesAcc defaultParams 0x012A0018 [(0x12345678, 0x9ABCDEF0, 0, 0, 0xF8CC93D6, 0x242D2080),
    (0x80000000, 0x80000000, 0, 0, 0x40000000, 0), (0xFFFFFFF9, 2, 0, 0, 0xFFFFFFFF, 0xFFFFFFF2)] := by
  decide
theorem test_multu : givesAcc defaultParams 0x012A0019 [(0x12345678, 0x9ABCDEF0, 0, 0, 0x0B00EA4E, 0x242D2080),
    (0xFFFFFFFF, 0xFFFFFFFF, 0, 0, 0xFFFFFFFE, 1)] := by decide
theorem test_div : givesAcc defaultParams 0x012A001A [(17, 5, 0, 0, 2, 3), (0xFFFFFFF9, 2, 0, 0, 0xFFFFFFFF, 0xFFFFFFFD),
    (7, 0xFFFFFFFE, 0, 0, 1, 0xFFFFFFFD), (0xFFFFFFF9, 0xFFFFFFFE, 0, 0, 0xFFFFFFFF, 3)] := by decide
theorem test_div_flooring : givesAcc { defaultParams with signedDiv := .flooring } 0x012A001A
    [(0xFFFFFFF9, 2, 0, 0, 1, 0xFFFFFFFC)] := by decide
theorem test_divu : givesAcc defaultParams 0x012A001B [(0xFFFFFFFF, 2, 0, 0, 1, 0x7FFFFFFF),
    (0xFFFFFFF9, 2, 0, 0, 1, 0x7FFFFFFC)] := by decide
theorem test_madd : givesAcc defaultParams 0x712A0000 [(3, 4, 0, 10, 0, 22), (1, 1, 0xFFFFFFFF, 0xFFFFFFFF, 0, 0),
    (0xFFFFFFFF, 1, 0, 0, 0xFFFFFFFF, 0xFFFFFFFF)] := by decide
theorem test_maddu : givesAcc defaultParams 0x712A0001 [(1, 1, 0, 0xFFFFFFFF, 1, 0),
    (0xFFFFFFFF, 1, 0, 0, 0, 0xFFFFFFFF)] := by decide
theorem test_msub : givesAcc defaultParams 0x712A0004 [(3, 4, 0, 22, 0, 10), (1, 1, 0, 0, 0xFFFFFFFF, 0xFFFFFFFF)] := by
  decide
theorem test_msubu : givesAcc defaultParams 0x712A0005 [(0xFFFFFFFF, 0xFFFFFFFF, 0xFFFFFFFE, 1, 0, 0)] := by
  decide
theorem test_mul : gives 0x712A4002 [(7, 6, 42), (0x00010000, 0x00010000, 0), (0xFFFFFFFF, 0xFFFFFFFF, 1)] := by
  decide

/-! ## Constants and comparisons (section 2.2) -/

theorem test_lui : gives 0x3C081234 [(0, 0, 0x12340000)] && gives 0x3C08FFFF [(0, 0, 0xFFFF0000)] := by
  decide
theorem test_slt : gives 0x012A402A [(0xFFFFFFFF, 1, 1), (0x80000000, 0x7FFFFFFF, 1), (0x7FFFFFFF, 0x80000000, 0),
    (5, 5, 0)] := by decide
theorem test_sltu : gives 0x012A402B [(0xFFFFFFFF, 1, 0), (0x7FFFFFFF, 0x80000000, 1)] := by decide
theorem test_slti : gives 0x2928FFFF [(0xFFFFFFFE, 0, 1), (0, 0, 0)] && gives 0x29288000 [(0x80000000, 0, 1)] := by
  decide
theorem test_sltiu : gives 0x2D28FFFF [(5, 0, 1), (0xFFFFFFFF, 0, 0)] && gives 0x2D280001 [(0, 0, 1),
    (0x80000000, 0, 0)] := by decide

/-! ## Branches and jumps (section 2.3) -/

theorem test_beq : goes 0x112A0003 (start []) 0x00400004 0x00400010 true 0 &&
    goes 0x112A0003 (start [(9, 1)]) 0x00400004 0x00400008 true 0 &&
    goes 0x112A7FFF (start []) 0x00400004 0x00420000 true 0 &&
    goes 0x112A8000 (start []) 0x00400004 0x003E0004 true 0 := by decide
theorem test_beq_without_delay_slots :
    goes 0x112A0003 { start [] with params := noDelay } 0x00400010 0x00400014 false 0 &&
      goes 0x112A0003 { start [(9, 1)] with params := noDelay } 0x00400004 0x00400008 false 0 := by
  decide
theorem test_bne : goes 0x152A0003 (start [(9, 1), (10, 2)]) 0x00400004 0x00400010 true 0 := by decide
theorem test_bgez : goes 0x05210003 (start []) 0x00400004 0x00400010 true 0 &&
    goes 0x05210003 (start [(9, 0x80000000)]) 0x00400004 0x00400008 true 0 := by decide
theorem test_bgtz : goes 0x1D200003 (start []) 0x00400004 0x00400008 true 0 &&
    goes 0x1D200003 (start [(9, 1)]) 0x00400004 0x00400010 true 0 := by decide
theorem test_blez : goes 0x19200003 (start []) 0x00400004 0x00400010 true 0 &&
    goes 0x19200003 (start [(9, 0xFFFFFFFF)]) 0x00400004 0x00400010 true 0 := by decide
theorem test_bltz : goes 0x05200003 (start [(9, 0xFFFFFFFF)]) 0x00400004 0x00400010 true 0 &&
    goes 0x05200003 (start []) 0x00400004 0x00400008 true 0 := by decide
theorem test_bgezal : goes 0x05310003 (start [(9, 5)]) 0x00400004 0x00400010 true 0x00400008 &&
    goes 0x05310003 (start [(9, 0xFFFFFFFF)]) 0x00400004 0x00400008 true 0x00400008 &&
    goes 0x05310003 { start [(9, 0xFFFFFFFF)] with params := noDelay } 0x00400004 0x00400008 false 0x00400004 := by
  decide
theorem test_bltzal : goes 0x05300003 (start [(9, 0xFFFFFFFF)]) 0x00400004 0x00400010 true 0x00400008 := by
  decide
theorem test_bc1f : goes 0x45000003 (start []) 0x00400004 0x00400010 true 0 := by decide
theorem test_bc1t : goes 0x45010003 (start []) 0x00400004 0x00400008 true 0 &&
    goes 0x45090003 ((start []).setFcc 2 true) 0x00400004 0x00400010 true 0 := by decide
theorem test_beql : goes 0x512A0003 (start []) 0x00400004 0x00400010 true 0 &&
    goes 0x512A0003 (start [(9, 1)]) 0x00400008 0x0040000C false 0 &&
    goes 0x512A0003 { start [(9, 1)] with params := noDelay } 0x00400004 0x00400008 false 0 := by decide
theorem test_bnel : goes 0x552A0003 (start [(9, 1)]) 0x00400004 0x00400010 true 0 := by decide
theorem test_bc1fl : goes 0x45020003 ((start []).setFcc 0 true) 0x00400008 0x0040000C false 0 := by decide
theorem test_bc1tl : goes 0x450B0003 ((start []).setFcc 2 true) 0x00400004 0x00400010 true 0 := by decide
theorem test_bgezl : goes 0x05230003 (start [(9, 0xFFFFFFFF)]) 0x00400008 0x0040000C false 0 := by decide
theorem test_bgtzl : goes 0x5D200003 (start []) 0x00400008 0x0040000C false 0 := by decide
theorem test_blezl : goes 0x59200003 (start []) 0x00400004 0x00400010 true 0 := by decide
theorem test_bltzl : goes 0x05220003 (start [(9, 0xFFFFFFFF)]) 0x00400004 0x00400010 true 0 := by decide
theorem test_bgezall : goes 0x05330003 (start [(9, 0xFFFFFFFF)]) 0x00400008 0x0040000C false 0x00400008 := by
  decide
theorem test_bltzall : goes 0x05320003 (start []) 0x00400008 0x0040000C false 0x00400008 := by decide
theorem test_j : goes 0x08100008 (start []) 0x00400004 0x00400020 true 0 &&
    goes 0x08100008 { start [] with pc := 0x0FFFFFFC#32, npc := 0x10000000#32 } 0x10000000 0x10400020 true 0 := by
  decide
theorem test_jal : goes 0x0C100008 (start []) 0x00400004 0x00400020 true 0x00400008 &&
    goes 0x0C100008 { start [] with params := noDelay } 0x00400020 0x00400024 false 0x00400004 := by decide
theorem test_jalr : goes 0x0120F809 (start [(9, 0x00400100)]) 0x00400004 0x00400100 true 0x00400008 &&
    goes 0x01204009 (start [(9, 0x00400100)]) 0x00400004 0x00400100 true 0 := by decide
theorem test_jr : goes 0x03E00008 (start [(31, 0x00400202)]) 0x00400004 0x00400202 true 0x00400202 := by
  decide

/-! ## Traps (section 2.4) -/

theorem test_teq : raises 0x012A0034 0x34 [(5, 5)] && gives 0x012A0034 [(5, 6, 0)] := by decide
theorem test_teqi : raises 0x052C0005 0x34 [(5, 0)] && raises 0x052CFFFF 0x34 [(0xFFFFFFFF, 0)] &&
    gives 0x052CFFFF [(0xFFFF, 0, 0)] := by decide
theorem test_tne : raises 0x012A0036 0x34 [(5, 6)] := by decide
theorem test_tnei : gives 0x052E0005 [(5, 0, 0)] := by decide
theorem test_tge : raises 0x012A0030 0x34 [(5, 5)] && gives 0x012A0030 [(0xFFFFFFFF, 1, 0)] := by decide
theorem test_tgeu : raises 0x012A0031 0x34 [(0xFFFFFFFF, 1)] := by decide
theorem test_tgei : gives 0x05280005 [(0x80000000, 0, 0)] := by decide
theorem test_tgeiu : raises 0x05290005 0x34 [(0x80000000, 0)] && gives 0x0529FFFF [(0xFFFFFFFE, 0, 0)] := by
  decide
theorem test_tlt : raises 0x012A0032 0x34 [(0xFFFFFFFF, 1)] := by decide
theorem test_tltu : gives 0x012A0033 [(0xFFFFFFFF, 1, 0)] := by decide
theorem test_tlti : raises 0x052A0005 0x34 [(0xFFFFFFFF, 0)] := by decide
theorem test_tltiu : gives 0x052B0005 [(0xFFFFFFFF, 0, 0)] && raises 0x052BFFFF 0x34 [(5, 0)] := by decide

/-! ## Loads and stores (section 2.5) -/

theorem test_lb : loads 0x81280000 0xFFFFFF80 0xFFFFFF80 && loads 0x81280004 4 4 := by decide
theorem test_lbu : loads 0x91280000 0x80 0x80 && loads 0x91280003 0xB3 0xB3 := by decide
theorem test_lh : loads 0x85280000 0xFFFF8091 0xFFFF9180 && loads 0x85280004 0x0415 0x1504 := by decide
theorem test_lhu : loads 0x95280002 0xA2B3 0xB3A2 := by decide
theorem test_lw : loads 0x8D280000 0x8091A2B3 0xB3A29180 && loads 0x8D280004 0x04152637 0x37261504 := by
  decide
theorem test_lwc1 : [(true, (0x04152637 : Word)), (false, 0x37261504)].all (fun c =>
    ((after 0xC5220004 (startM c.1 0)).map (·.getFpr 2)) == some c.2) := by decide
theorem test_ldc1 : [(true, (0x8091A2B304152637 : DWord)), (false, 0x37261504B3A29180)].all (fun c =>
    ((after 0xD5220000 (startM c.1 0)).map (·.getDouble 2)) == some c.2) := by decide
theorem test_ll : loads 0xC1280000 0x8091A2B3 0xB3A29180 &&
    ((after 0xC1280000 (startM false 0)).map fun t => (t.llBit, t.llAddr)) == some (true, 0x10010000#32) := by
  decide
theorem test_lwl : loads 0x89280000 0x8091A2B3 0x80000000 && loads 0x89280001 0x91A2B300 0x91800000 &&
    loads 0x89280002 0xA2B30000 0xA2918000 && loads 0x89280003 0xB3000000 0xB3A29180 := by decide
theorem test_lwr : loads 0x99280000 0x80 0xB3A29180 && loads 0x99280001 0x8091 0x00B3A291 &&
    loads 0x99280002 0x8091A2 0xB3A2 && loads 0x99280003 0x8091A2B3 0xB3 := by decide
theorem test_sb : storesBytes 0xA1280001 0x8044A2B304152637 0x8044A2B304152637 := by decide
theorem test_sh : storesBytes 0xA5280002 0x8091334404152637 0x8091443304152637 := by decide
theorem test_sw : storesBytes 0xAD280000 0x1122334404152637 0x4433221104152637 := by decide
theorem test_swc1 : storesBytes 0xE5220004 0x8091A2B311223344 0x8091A2B344332211 := by decide
theorem test_sdc1 : storesBytes 0xF5220000 0xAABBCCDD11223344 0x44332211DDCCBBAA := by decide
theorem test_swl : storesBytes 0xA9280001 0x8011223304152637 0x2211A2B304152637 := by decide
theorem test_swr : storesBytes 0xB9280001 0x3344A2B304152637 0x8044332204152637 := by decide
theorem test_misaligned_loads : [0x85280001, 0x95280001, 0x8D280001, 0xC1280001, 0xC5220001, 0xD5220001].all (fun w =>
    ((after w (startM false 77)).map fun t => (t.cause, t.badVAddr, t.getGpr 8, t.llBit)) ==
      some (0x10#32, 0x10010001#32, 77#32, false)) := by decide
theorem test_misaligned_stores : [0xA5280001, 0xAD280001, 0xE1280001, 0xF5220001, 0xE5220001].all (fun w =>
    ((after w (startM false 77)).map fun t => (t.cause, t.badVAddr, t.getGpr 8, eightBytes t)) ==
      some (0x14#32, 0x10010001#32, 77#32, 0x8091A2B304152637)) := by decide
theorem test_sc_succeeds : ((after 0xE1280000 ((startM true 0x11223344).setReservation 0x10010000)).map fun t =>
    (eightBytes t, t.getGpr 8, t.llBit)) == some (0x1122334404152637, 1#32, false) := by decide
theorem test_sc_fails : ((after 0xE1280000 (startM true 0x11223344)).map fun t =>
    (eightBytes t, t.getGpr 8, t.llBit)) == some (0x8091A2B304152637, 0#32, false) := by decide

/-! ## Data movement (section 2.6) -/

theorem test_mfhi : ((after 0x00004010 { start [] with hi := 0x12345678 }).map (·.getGpr 8)) == some 0x12345678#32 := by
  decide
theorem test_mflo : ((after 0x00004012 { start [] with lo := 0x9ABCDEF0 }).map (·.getGpr 8)) == some 0x9ABCDEF0#32 := by
  decide
theorem test_mthi : givesAcc defaultParams 0x01200011 [(7, 0, 1, 2, 7, 2)] := by decide
theorem test_mtlo : givesAcc defaultParams 0x01200013 [(7, 0, 1, 2, 1, 7)] := by decide
theorem test_movn : gives 0x012A400B [(5, 1, 5), (5, 0, 0)] := by decide
theorem test_movz : gives 0x012A400A [(5, 0, 5), (5, 0x80000000, 0)] := by decide
theorem test_movf : gives 0x01204001 [(5, 0, 5)] &&
    ((after 0x01204001 ((start [(9, 5)]).setFcc 0 true)).map (·.getGpr 8)) == some 0#32 := by decide
theorem test_movt : ((after 0x01214001 ((start [(9, 5)]).setFcc 0 true)).map (·.getGpr 8)) == some 5#32 &&
    ((after 0x012D4001 ((start [(9, 5)]).setFcc 0 true)).map (·.getGpr 8)) == some 0#32 := by decide
theorem test_mfc1 : ((after 0x44081000 (startF [(2, 0x3FC00000)])).map (·.getGpr 8)) == some 0x3FC00000#32 := by
  decide
theorem test_mtc1 : ((after 0x44881000 (start [(8, 3)])).map (·.getFpr 2)) == some 3#32 := by decide
theorem test_mfc0 : ((after 0x401A6800 { start [] with cause := 0x30 }).map (·.getGpr 26)) == some 0x30#32 &&
    ((after 0x40086000 { start [] with status := 0xFF00 }).map (·.getGpr 8)) == some 0xFF00#32 &&
    ((after 0x40084000 { start [] with badVAddr := 0x10010002 }).map (·.getGpr 8)) == some 0x10010002#32 := by
  decide
theorem test_mtc0 : ((after 0x40886000 (start [(8, 0xFF01)])).map (·.status)) == some 0xFF01#32 &&
    ((after 0x40887000 (start [(8, 0x00400024)])).map (·.epc)) == some 0x00400024#32 &&
    ((after 0x40886800 (start [(8, 0xFFFFFFFF)])).map (·.cause)) == some 0x37C#32 &&
    ((after 0x40884000 { start [(8, 5)] with badVAddr := 7 }).map (·.badVAddr)) == some 7#32 := by decide

/-! ## Floating point (section 2.7; a line with "hand" is worked out by hand from R400 to R405) -/

theorem test_add_s : givesF 0x46041000 [(0x3F800000, 0x40000000, 0x40400000), (0x3F800000, 0x33800000, 0x3F800000),
    (0x3F800000, 0x33C00000, 0x3F800001), (0x7F7FFFFF, 0x7F7FFFFF, 0x7F800000)] := by decide
theorem test_sub_s : givesF 0x46041001 [(0x3FC00000, 0x40200000, 0xBF800000), (0x3FC00000, 0x3FC00000, 0)] := by
  decide
theorem test_mul_s : givesF 0x46041002 [(0x3FC00000, 0x40200000, 0x40700000)] := by decide
theorem test_div_s : givesF 0x46041003 [(0x3F800000, 0x40400000, 0x3EAAAAAB), (0x3F800000, 0, 0x7F800000),
    (0xBF800000, 0, 0xFF800000), (0x00800000, 0x40000000, 0x00400000)] := by decide
theorem test_sqrt_s : givesF 0x46001004 [(0x40000000, 0, 0x3FB504F3), (0x80000000, 0, 0x80000000)] := by
  decide +kernel
theorem test_abs_s : givesF 0x46001005 [(0xC0200000, 0, 0x40200000)] := by decide
theorem test_neg_s : givesF 0x46001007 [(0, 0, 0x80000000)] := by decide
theorem test_mov_s : givesF 0x46001006 [(0x7FC00001, 0, 0x7FC00001)] := by decide
theorem test_add_d : givesD 0x46241000 [(0x3FF0000000000000, 0x4000000000000000, 0x4008000000000000)] := by
  decide
/-- Hand: 1.0 - 2.0 = -1.0. -/
theorem test_sub_d : givesD 0x46241001 [(0x3FF0000000000000, 0x4000000000000000, 0xBFF0000000000000)] := by
  decide
/-- Hand: 1.5 * 2.0 = 3.0. -/
theorem test_mul_d : givesD 0x46241002 [(0x3FF8000000000000, 0x4000000000000000, 0x4008000000000000)] := by
  decide
theorem test_div_d : givesD 0x46241003 [(0x3FF0000000000000, 0x4008000000000000, 0x3FD5555555555555)] := by
  decide
theorem test_sqrt_d : givesD 0x46201004 [(0x4000000000000000, 0, 0x3FF6A09E667F3BCD)] := by decide +kernel
/-- Hand: the sign bit is cleared, inverted, copied. -/
theorem test_abs_neg_mov_d : givesD 0x46201005 [(0xC004000000000000, 0, 0x4004000000000000)] &&
    givesD 0x46201007 [(0x4004000000000000, 0, 0xC004000000000000)] &&
    givesD 0x46201006 [(0xC004000000000001, 0, 0xC004000000000001)] := by decide
theorem test_cvt_s_w : givesF 0x46801020 [(3, 0, 0x40400000), (0xFFFFFFFF, 0, 0xBF800000), (0x01000001, 0, 0x4B800000),
    (0x7FFFFFFF, 0, 0x4F000000)] := by decide
theorem test_cvt_d_w : givesD 0x46801021 [(0xFFFFFFFF, 0, 0xBFF0000000000000)] := by decide
theorem test_cvt_d_s : givesD 0x46001021 [(0x3FC00000, 0, 0x3FF8000000000000)] := by decide
theorem test_cvt_s_d : givesD 0x46201020 [(0x3FB999999999999A, 0, 0x3DCCCCCD)] := by decide
theorem test_cvt_w_s : givesF 0x46001024 [(0x40200000, 0, 2), (0x40600000, 0, 4), (0xC0200000, 0, 0xFFFFFFFE)] := by
  decide
theorem test_round_w_s : givesF 0x4600100C [(0x3FC00000, 0, 2), (0x3F000000, 0, 0)] := by decide
theorem test_trunc_w_s : givesF 0x4600100D [(0xC0200000, 0, 0xFFFFFFFE), (0x3FC00000, 0, 1)] := by decide
theorem test_ceil_w_s : givesF 0x4600100E [(0x3FC00000, 0, 2), (0xC0200000, 0, 0xFFFFFFFE)] := by decide
theorem test_floor_w_s : givesF 0x4600100F [(0x3FC00000, 0, 1), (0xC0200000, 0, 0xFFFFFFFD)] := by decide
/-- The line of `trunc.w.d` is the spec's; the others hand: -2.5 and 2.5 rounded in each direction. -/
theorem test_double_to_word : givesD 0x4620100D [(0x3FF8000000000000, 0, 1)] &&
    givesD 0x46201024 [(0x4004000000000000, 0, 2)] && givesD 0x4620100C [(0xC004000000000000, 0, 0xFFFFFFFE)] &&
    givesD 0x4620100E [(0x4004000000000000, 0, 3)] && givesD 0x4620100F [(0xC004000000000000, 0, 0xFFFFFFFD)] := by
  decide
theorem test_c_eq_s : compares 0x46041032 [(0x3F800000, 0x3F800000, true), (0, 0x80000000, true),
    (0x7FC00000, 0x7FC00000, false)] := by decide
theorem test_c_lt_s : compares 0x4604103C [(0x3F800000, 0x40000000, true), (0x40000000, 0x3F800000, false),
    (0xBF800000, 0, true), (0x7FC00000, 0x3F800000, false)] := by decide
theorem test_c_le_s : compares 0x4604103E [(0x3F800000, 0x3F800000, true), (0x3F800000, 0x7FC00000, false)] := by
  decide
theorem test_c_eq_d : compares 0x46241032 [(0x3FF0000000000000, 0x3FF0000000000000, true)] := by decide
/-- Hand: 1.0 < 2.0, and -0 is not less than +0 but less or equal. -/
theorem test_c_lt_le_d : compares 0x4624103C [(0x3FF0000000000000, 0x4000000000000000, true),
    (0x8000000000000000, 0, false)] && compares 0x4624103E [(0x8000000000000000, 0, true)] := by decide
theorem test_movf_s_movt_s : ((after 0x46001011 (startF [(0, 9), (2, 5)])).map (·.getFpr 0)) == some 5#32 &&
    ((after 0x46001011 ((startF [(0, 9), (2, 5)]).setFcc 0 true)).map (·.getFpr 0)) == some 9#32 &&
    ((after 0x46011011 ((startF [(0, 9), (2, 5)]).setFcc 0 true)).map (·.getFpr 0)) == some 5#32 := by decide
theorem test_movn_s_movz_s : ((after 0x460A1013 (startF [(0, 9), (2, 5)])).map (·.getFpr 0)) == some 9#32 &&
    ((after 0x460A1013 ((startF [(0, 9), (2, 5)]).setGpr 10 1)).map (·.getFpr 0)) == some 5#32 &&
    ((after 0x460A1012 (startF [(0, 9), (2, 5)])).map (·.getFpr 0)) == some 5#32 := by decide
/-- Hand: the pair `f[3] || f[2]` is copied exactly when the condition holds. -/
theorem test_conditional_moves_d : ((after 0x46201011 (startF [(2, 5), (3, 6)])).map (·.getDouble 0)) ==
      some 0x600000005#64 && ((after 0x46211011 (startF [(2, 5), (3, 6)])).map (·.getDouble 0)) == some 0#64 &&
    ((after 0x462A1013 (startF [(2, 5), (3, 6)])).map (·.getDouble 0)) == some 0#64 &&
    ((after 0x462A1012 (startF [(2, 5), (3, 6)])).map (·.getDouble 0)) == some 0x600000005#64 := by decide
/-- R402: the invalid operation runs and goes on; which NaN it leaves is free. -/
theorem test_invalid_operation_runs : exec (.divS 0 2 4) (start []) =
    .next (((start []).setFpr 0 (freeSingleNan (Config.freeBits 0))).drawn 1).advance := rfl

/-- R4: under another record the instruction delivers that record's value, whatever it is. -/
theorem test_other_numerics : exec (.addS 0 2 4) { startF [(2, 5), (4, 6)] with params := otherNumbers } =
    .next ((({ startF [(2, 5), (4, 6)] with params := otherNumbers } : State).setFpr 0
      (Config.otherNumerics.arithSingle .add 5 6)).advance) := rfl

/-! ## Exceptions and interrupts (section 2.8) -/

theorem test_syscall : ((after 0x0000000C startE).map fun t => (t.epc, t.cause, t.status, t.pc, t.npc)) ==
    some (0x00400010#32, 0x20#32, 0xFF03#32, 0x80000180#32, 0x80000184#32) := by decide
theorem test_syscall_nested : ((after 0x0000000C { startE with
      status := 0xFF03, epc := 0x00400100, cause := 0x80000030 }).map fun t => (t.epc, t.cause, t.status, t.pc)) ==
    some (0x00400100#32, 0x80000020#32, 0xFF03#32, 0x80000180#32) := by decide
theorem test_break : ((after 0x0000000D startE).map (·.cause)) == some 0x24#32 &&
    ((after 0x0000018D startE).map (·.cause)) == some 0x24#32 := by decide
theorem test_break_one_ends_the_run : exec (.brk 1) startE = .fault .debuggerBreak := rfl
theorem test_reserved_word_raises : ((after 0xFFFFFFFF startE).map (·.cause)) == some 0x28#32 := by decide
theorem test_teq_in_delay_slot : ((after 0x00000034 { startE with inDelaySlot := true, npc := 0x00400040 }).map fun t =>
    (t.epc, t.cause, t.pc, t.npc)) == some (0x0040000C#32, 0x80000034#32, 0x80000180#32, 0x80000184#32) := by
  decide
theorem test_eret : ((after 0x42000018 { startE with status := 0xFF03, epc := 0x00400024, llBit := true }).map fun t =>
    (t.pc, t.npc, t.status, t.llBit)) == some (0x00400024#32, 0x00400028#32, 0xFF01#32, false) := by decide
theorem test_nop : ((after 0 startE).map fun t => (t.pc, t.npc, t.status)) ==
    some (0x00400014#32, 0x00400018#32, 0xFF01#32) := by decide
theorem test_misaligned_fetch : (show Bool from match step { startE with pc := 0x00400012#32 } with
    | .next t => (t.cause, t.badVAddr, t.epc) == (0x10#32, 0x00400012#32, 0x00400012#32)
    | _ => false) := by decide
/-- The interrupt lines with line 2 high and nothing else. -/
def lineTwo : List Event := [⟨1#6, []⟩]

theorem test_interrupt_taken : ((after 0 { startE with status := 0x401, inputs := lineTwo }).map fun t =>
    (t.epc, t.cause, t.status, t.pc)) == some (0x00400010#32, 0x400#32, 0x403#32, 0x80000180#32) := by
  decide
theorem test_interrupt_not_taken : [(0x400 : Word), 0x403, 0x801].all (fun status =>
    ((after 0 { startE with status := status, inputs := lineTwo }).map fun t => (t.pc, t.cause)) ==
      some (0x00400014#32, 0x400#32)) := by decide
theorem test_interrupt_in_delay_slot : ((after 0 { startE with
      status := 0x401, inputs := lineTwo, inDelaySlot := true }).map fun t => (t.epc, t.cause)) ==
    some (0x0040000C#32, 0x80000400#32) := by decide
/-- R73: another agent's write to the block of the reservation clears it. -/
theorem test_other_agent_clears_reservation : [(0x1001001F : Word), 0x10010020].map (fun a =>
    ({ (startM false 0).setReservation 0x10010000 with inputs := [⟨0#6, [(a, 1)]⟩] } : State).sampleInputs.llBit) =
    [false, true] := by decide

/-! ## Pseudoinstructions (sections 2.1, 2.2, 2.5) -/

/-- `x[8]` after the expansion, which has no branch, executed in the state. -/
def expandsTo (s : State) (cases : List (Pseudo × Word)) : Bool :=
  cases.all fun c =>
    match expand s.params s.pc c.1 with
    | some is =>
      (match execAll is s with
        | .next t => t.getGpr 8 == c.2
        | .fault _ => false
        | .refused _ => false)
    | none => false

theorem test_rotations : expandsTo (start [(9, 0x80000001), (10, 1)]) [(.rol 8 9 (.reg 10), 3),
    (.ror 8 9 (.reg 10), 0xC0000000), (.rol 8 9 (.imm 1), 3)] &&
    expandsTo (start [(9, 0x12345678), (10, 36)]) [(.ror 8 9 (.reg 10), 0x81234567), (.rol 8 9 (.reg 0), 0x12345678)] :=
  by decide
theorem test_sets : expandsTo (start [(9, 0xFFFFFFFF), (10, 1)]) [(.seq 8 9 (.reg 10), 0), (.sne 8 9 (.reg 10), 1),
    (.sge 8 9 (.reg 10), 0), (.sgeu 8 9 (.reg 10), 1), (.sgt 8 9 (.reg 10), 0), (.sgtu 8 9 (.reg 10), 1),
    (.sle 8 9 (.reg 10), 1), (.sleu 8 9 (.reg 10), 0), (.negu 8 9, 1), (.not 8 9, 0)] := by decide
theorem test_la_li_and_immediates : expandsTo (start [(9, 5)]) [(.la 8 (.absolute 0x10010004), 0x10010004),
    (.li 8 0x12345678, 0x12345678), (.generalised .addu 8 9 (.imm 0x12340000), 0x12340005)] := by decide
theorem test_unaligned_word : expandsTo (startM false 0) [(.ulw 8 (.based 1 9), 0x04B3A291), (.ulhu 8 (.based 1 9), 0xA291)]
    && expandsTo (startM true 0) [(.ulw 8 (.based 1 9), 0x91A2B304), (.ulh 8 (.based 1 9), 0xFFFF91A2)] := by
  decide

/-- Hand: `ulh`, `ulhu`, `ulw` into the register of an address that needs `$at`: 0x7FFF(base) and label(base). -/
theorem test_unaligned_loads_of_their_base : expandsTo ((startM false 0).setGpr 8 0x10008002)
      [(.ulh 8 (.based 0x7FFF 8), 0xFFFFA291), (.ulhu 8 (.based 0x7FFF 8), 0xA291),
        (.ulw 8 (.based 0x7FFF 8), 0x04B3A291), (.ulw 8 (.indexed 0x7FFE 8), 0xB3A29180)] &&
    expandsTo ((startM true 0).setGpr 8 0x10008002)
      [(.ulh 8 (.based 0x7FFF 8), 0xFFFF91A2), (.ulw 8 (.indexed 0x7FFF 8), 0x91A2B304)] := by decide

/-- The eight bytes at 0x10010000 and `x[8]` after the expansion, executed in the state. -/
def expansionLeaves (s : State) (p : Pseudo) (bytes : Nat) (x8 : Word) : Bool :=
  match expand s.params s.pc p with
  | some is =>
    (match execAll is s with
      | .next t => eightBytes t == bytes && t.getGpr 8 == x8
      | .fault _ => false
      | .refused _ => false)
  | none => false

/-- Hand: `ush` of 0x3344 at label, and at label + register 8 with that register as the value; it is left as it was. -/
theorem test_unaligned_halfword_stores :
    expansionLeaves (startM false 0x11223344) (.ush 8 (.absolute 0x10010001)) 0x804433B304152637 0x11223344 &&
    expansionLeaves (startM true 0x11223344) (.ush 8 (.based 0x7FFF 0)) 0x8091A2B304152637 0x11223344 &&
    expansionLeaves (startM false 0x11223344) (.ush 8 (.indexed 0xFEDECCBD 8)) 0x804433B304152637 0x11223344 &&
    expansionLeaves (startM true 0x11223344) (.ush 8 (.indexed 0xFEDECCBD 8)) 0x803344B304152637 0x11223344 := by
  decide

/-- R162, R179, R502: `rem` of registers, and of the immediate -1, which goes through `$at` (R193). -/
theorem test_rem : expand defaultParams 0 (.rem 8 9 (.reg 10)) = some [.bne 10 0 2, .nop, .brk 7, .addiu 1 0 0xFFFF,
      .bne 10 1 4, .lui 1 0x8000, .bne 9 1 2, .nop, .brk 6, .div 9 10, .mfhi 8] ∧
    expand defaultParams 0 (.rem 8 9 (.imm 0xFFFFFFFF)) = some [.lui 1 0x8000, .bne 9 1 2, .nop, .brk 6,
      .addiu 1 0 0xFFFF, .bne 1 0 2, .nop, .brk 7, .div 9 1, .mfhi 8] ∧
    expand defaultParams 0 (.remu 8 9 (.imm 16)) = some [.ori 1 0 16, .bne 1 0 2, .nop, .brk 7, .divu 9 1, .mfhi 8] := by
  decide

/-! ## Witnesses: states and operands that meet the hypotheses of the obligations -/

/-- Nothing exists in memory. -/
def noMemory : Config.Params := { defaultParams with memMap := .regions [] }

/-- The word of an instruction stands at `pc`. -/
def ready (i : Instr) : State := (start []).placeWord (encode i)

theorem witness_DecodeEncodeAgree : (Instr.beql 31 31 0xFFFF).wellFormed defaultParams = true ∧
    (Instr.sll 0 0 1).wellFormed noLikely = true := by decide

theorem witness_DecodeIsTheTable : decode defaultParams 0x012A4020 = .ok (.add 8 9 10) ∧
    (Instr.add 8 9 10).wellFormed defaultParams = true ∧ matchesRow defaultParams 0x012A4020 (.add 8 9 10) ∧
    decode defaultParams 0 = .ok .nop ∧ matchesRow defaultParams 0 (.sll 1 1 1) := ⟨rfl, rfl, rfl, rfl, rfl⟩

theorem witness_ReservedWordRaises :
    ((start []).placeWord 0xFFFFFFFF).sampleInputs.interruptPending = false ∧
      ((start []).placeWord 0xFFFFFFFF).sampleInputs.fetch 0x00400000 = .ok 0xFFFFFFFF ∧
      ∀ j : Instr, j.wellFormed defaultParams = true → ¬matchesRow defaultParams 0xFFFFFFFF j := by
  refine ⟨by decide, rfl, fun j _ => ?_⟩
  cases j <;> simp [matchesRow, OpcodeRow.maskFor, opcodeRow, defaultParams]

theorem witness_StepRunsDecoded : (ready (.add 8 9 10)).sampleInputs.interruptPending = false ∧
    (ready (.add 8 9 10)).pc.toNat % 4 = 0 ∧ (ready (.add 8 9 10)).allows .execute 0x00400000 4 ∧
    decode defaultParams (BitVec.ofNat 32 ((ready (.add 8 9 10)).sampleInputs.assembled 0x00400000 4)) =
      .ok (.add 8 9 10) := ⟨by decide, rfl, rfl, rfl⟩

/-- No event; and one that writes an address twice, the next one once, and the next not at all. -/
theorem witness_OutsideWorldFirst :
    let s := { startM false 0 with inputs := [⟨1#6, [(0x10010007, 1), (0x10010008, 2), (0x10010007, 3)]⟩] }
    (start []).inputs = [] ∧ s.mem.wf = true ∧ s.inputs.head?.map Event.writes =
      some ([((0x10010007 : Word), (1 : Byte)), (0x10010008, 2)] ++ (0x10010007, 3) :: []) ∧
    s.sampleInputs.readByte 0x10010007 = 3 ∧ s.sampleInputs.readByte 0x10010008 = 2 ∧
    s.sampleInputs.readByte 0x10010006 = 0x26 := by decide

theorem witness_InterruptExactlyWhenEnabled :
    let u := ({ start [] with status := 0x401, inputs := lineTwo } : State).sampleInputs
    u.status.getLsbD 0 = true ∧ u.status.getLsbD 1 = false ∧ u.cause.getLsbD (8 + 2) = true ∧
      u.status.getLsbD (8 + 2) = true ∧ (start []).sampleInputs.status.getLsbD 0 = false := by decide

theorem witness_FetchExceptions : (start []).sampleInputs.interruptPending = false ∧
    (start []).pc.toNat % 4 = 0 ∧ (start []).allows .execute 0x00400000 4 ∧
    ({ start [] with pc := 0x00400003 } : State).sampleInputs.interruptPending = false ∧
    ({ start [] with pc := 0x00400003 } : State).pc.toNat % 4 ≠ 0 ∧
    ({ start [] with params := noMemory } : State).sampleInputs.interruptPending = false ∧
    ¬({ start [] with params := noMemory } : State).allows .execute 0x00400000 4 := by
  unfold State.allows; decide

/-- A state in a delay slot, with memory, that meets the invariant. -/
theorem witness_StepKeepsInvariant :
    ({ startM true 5 with inDelaySlot := true, npc := 0x00400040 } : State).Inv ∧
      (after 0x00000034 { startM true 5 with inDelaySlot := true, npc := 0x00400040 }).isSome := by
  unfold State.Inv; decide

theorem witness_StepKeepsParameters :
    step (start []) = .next { start [] with pc := 0x00400004, npc := 0x00400008 } := rfl

/-- Each reason to stop is met by some instruction in some state, and none by another. -/
theorem witness_RunsUnlessStopped :
    exec (.beq 9 10 3) { start [] with inDelaySlot := true } = .refused .controlTransferInDelaySlot ∧
      exec (.jalr 31 31) (start []) = .refused .linkRegisterHazard ∧
      exec (.addD 0 3 4) (start []) = .refused .oddDoubleRegister ∧
      exec (.mfc0 8 9) (start []) = .refused (.cop0RegisterAbsent 9) ∧
      exec (.sc 8 4 9) ((start []).setReservation 0) = .refused .scAddressMismatch ∧
      exec (.brk 1) (start []) = .fault .debuggerBreak ∧ exec .nop (start []) = .next (start []).advance :=
  ⟨rfl, rfl, rfl, rfl, rfl, rfl, rfl⟩

theorem witness_RegisterZeroNeverWritten :
    exec (.addu 0 9 10) (start [(9, 5)]) = .next (start [(9, 5)]).advance := rfl

theorem witness_Cop0Writers : exec (.mtc0 9 14) (start [(9, 5)]) = .next ({ start [(9, 5)] with epc := 5 }).advance ∧
    exec (.brk 0) startE = .next (startE.takeException .breakpoint) := ⟨rfl, rfl⟩

theorem witness_MemoryWriters : exec (.addu 8 9 10) (start []) = .next ((start []).setGpr 8 0).advance ∧
    mayStore (.addu 8 9 10) = false ∧ exec .syscall (start []) = .next ((start []).takeException .syscall) ∧
    (start []).params.syscallMode = .trap := ⟨rfl, rfl, rfl, rfl⟩

theorem witness_FlagAccReservationWriters : exec .nop (start []) = .next (start []).advance ∧
    isCompare .nop = false ∧ writesAcc .nop = false ∧ writesReservation .nop = false := ⟨rfl, rfl, rfl, rfl⟩

/-- Operands 32 and 16 and 0 leading ones, and 32 leading zeros. -/
theorem witness_CountLeading : leadingRun 0xFFFFFFFF true 32 = 32 ∧ leadingRun 0xFFFF0000 true 32 = 16 ∧
    leadingRun 0x7FFFFFFF true 32 = 0 ∧ leadingRun 0 false 32 = 32 := by decide

/-- The four values at which a sum or difference starts or ceases to fit. -/
theorem witness_AddSubWithOverflow :
    let s := start [(8, 0x7FFFFFFF), (9, 1), (10, 0x80000000), (11, 0xFFFFFFFF)]
    (s.getGpr 8).toInt + (s.getGpr 0).toInt = 2 ^ 31 - 1 ∧ (s.getGpr 8).toInt + (s.getGpr 9).toInt = 2 ^ 31 ∧
      (s.getGpr 10).toInt + (s.getGpr 0).toInt = -(2 ^ 31) ∧
      (s.getGpr 10).toInt + (s.getGpr 11).toInt = -(2 ^ 31) - 1 := by decide

theorem witness_DivideUnsignedAndOpen :
    let s := start [(8, 0x7FFFFFFF), (9, 1), (10, 0x80000000), (11, 0xFFFFFFFF)]
    (0 ≤ (s.getGpr 8).toInt ∧ 0 < (s.getGpr 9).toInt) ∧ s.getGpr 11 ≠ 0#32 ∧ s.getGpr 0 = 0#32 ∧
      (s.getGpr 10 = 0x80000000#32 ∧ s.getGpr 11 = 0xFFFFFFFF#32) := by decide

/-- The most negative dividend, and the most negative divisor, under each convention. -/
theorem witness_DivideSigned :
    [Config.SignedDiv.truncating, .flooring, .function, .anyConvention].all fun c =>
      let s := { start [(9, 0x80000000), (10, 1)] with params := { defaultParams with signedDiv := c } }
      decide ((s.getGpr 9).toInt < 0 ∧ (s.getGpr 10).toInt ≠ 0 ∧
        ¬((s.getGpr 9).toInt = -(2 ^ 31) ∧ (s.getGpr 10).toInt = -1) ∧ s.params.signedDiv = c) &&
      decide ((s.getGpr 9).toInt < 0 ∧ (s.getGpr 9).toInt ≠ 0 ∧
        ¬((s.getGpr 10).toInt = -(2 ^ 31) ∧ (s.getGpr 9).toInt = -1)) := by decide

theorem witness_LiLoadsItsValue : (1 : Reg) ≠ 0#5 ∧ expandLi 1 0xFFFF8000 = [.addiu 1 0 0x8000] ∧
    expandLi 1 0xFFFF = [.ori 1 0 0xFFFF] ∧ expandLi 1 0x10000 = [.lui 1 1] ∧
    expandLi 1 0x10001 = [.lui 1 1, .ori 1 1 1] := by decide

theorem witness_ConditionalMoves : (start [(10, 1)]).getGpr 10 ≠ 0#32 ∧ (start []).getGpr 10 = 0#32 ∧
    (start []).getFcc 7 = false ∧ ((start []).setFcc 7 true).getFcc 7 = true := by decide

theorem witness_Cop0Reads_and_Cop0Writes : cop0Exists 7 = false ∧ cop0Exists 9 = false ∧ cop0Exists 15 = false := by
  decide

/-- Outside a delay slot, with registers on each side of 0, for both values of `DELAYED_BRANCHES`. -/
theorem witness_Branches_and_BranchesLikely :
    let s := start [(8, 0xFFFFFFFF), (9, 1)]
    s.inDelaySlot = false ∧ (s.getGpr 8).toInt < 0 ∧ (s.getGpr 0).toInt = 0 ∧ 0 < (s.getGpr 9).toInt ∧
      s.params.delayedBranches = true ∧ ({ s with params := noDelay } : State).params.delayedBranches = false ∧
      ({ s with params := noDelay } : State).inDelaySlot = false := by decide

theorem witness_LinkBranches_and_Jumps : (start []).inDelaySlot = false ∧ (30 : Reg) ≠ 31#5 ∧ (0 : Reg) ≠ 30#5 := by
  decide

theorem witness_NamedRefusals : transfersControl .eret = true ∧
    ({ start [] with inDelaySlot := true } : State).inDelaySlot = true ∧ linkHazard (.bgezal 31 0) = true ∧
    linkHazard (.jalr 0 0) = true ∧ (start []).inDelaySlot = false ∧ hasOddDouble (.movzD 31 0 0) = true := by
  decide

theorem witness_Traps : (start [(9, 5)]).getGpr 9 ≠ (start [(9, 5)]).getGpr 10 ∧
    (start []).getGpr 9 = (start []).getGpr 10 := by decide

/-- The highest aligned address of each width, and the values on each side of the sign bit. -/
theorem witness_Loads_FpLoads_and_LoadLinked :
    let s := { start [] with mem := [(0xFFFFFFFE, 0x7F), (0xFFFFFFFF, 0x80)] }
    s.operandAddress 0 0xFFFF = 0xFFFFFFFF ∧ s.allows .read 0xFFFFFFFF 1 ∧ s.assembled 0xFFFFFFFF 1 = 128 ∧
      s.assembled 0xFFFFFFFE 1 = 127 ∧ (0xFFFFFFFE#32).toNat % 2 = 0 ∧ s.allows .read 0xFFFFFFFE 2 ∧
      s.operandAddress 0 0xFFFC = 0xFFFFFFFC ∧ (0xFFFFFFFC#32).toNat % 4 = 0 ∧ s.allows .read 0xFFFFFFFC 4 ∧
      s.operandAddress 0 0xFFF8 = 0xFFFFFFF8 ∧ (0xFFFFFFF8#32).toNat % 8 = 0 ∧ s.allows .read 0xFFFFFFF8 8 ∧
      (30 : FReg).getLsbD 0 = false := by unfold State.allows; decide

/-- All four values of the low address bits, in both byte orders. -/
theorem witness_UnalignedLoads_and_UnalignedStores :
    [true, false].all fun big => [(0x10010000 : Word), 0x10010001, 0x10010002, 0x10010003].all fun a =>
      let s := startM big 0
      let left := if s.params.bigEndian then a else wordBase a
      let right := if s.params.bigEndian then wordBase a else a
      s.mem.wf && mapAllows s.params .read (wordBase a) 4 && mapAllows s.params .write left (4 - s.leftKept a) &&
        mapAllows s.params .write right (4 - s.rightKept a) := by decide

theorem witness_Stores : (startM true 0).mem.wf = true ∧ (startM true 0).operandAddress 9 0 = 0x10010000 ∧
    (0x10010000#32).toNat % 8 = 0 ∧ (startM true 0).allows .write 0x10010000 8 ∧
    (startM true 0).allows .write 0x10010000 4 ∧ (2 : FReg).getLsbD 0 = false := by unfold State.allows; decide

theorem witness_MisalignedAccess : ((startM true 0).operandAddress 9 1).toNat % 2 ≠ 0 ∧
    ((startM true 0).operandAddress 9 2).toNat % 4 ≠ 0 ∧ ((startM true 0).operandAddress 9 4).toNat % 8 ≠ 0 ∧
    (2 : FReg).getLsbD 0 = false := by decide

/-- No memory at all, and a store across the end of a region. -/
theorem witness_BusErrors :
    let s : State := { start [] with params := noMemory, llBit := true }
    let t : State := { start [] with params := { defaultParams with memMap := .regions [⟨0, 2, true, true, true⟩] } }
    ¬s.allows .read 0 1 ∧ ¬s.allows .write 0 8 ∧ (0#32).toNat % 8 = 0 ∧ (2 : FReg).getLsbD 0 = false ∧
      (s.llBit = true ∧ s.operandAddress 0 0 = s.llAddr) ∧ ¬t.allows .write 0 4 ∧
      ¬s.allows .write 0 (4 - s.leftKept 3) ∧ ¬s.allows .write 0 (4 - s.rightKept 0) := by
  unfold State.allows; decide

/-- Each of the three cases; the reservation at the operand's address and one word off, where `SC_ALWAYS_SUCCEEDS` chooses
between the first case and the third. -/
theorem witness_StoreConditional :
    let s := startM true 0
    let always := { s.setReservation 0x10010000 with params := { defaultParams with scAlwaysSucceeds := true } }
    (always.params.scAlwaysSucceeds = true ∧ always.llBit = true ∧ always.operandAddress 9 4 ≠ always.llAddr ∧
      always.allows .write (always.operandAddress 9 4) 4) ∧
    s.mem.wf = true ∧ (s.operandAddress 9 0).toNat % 4 = 0 ∧ s.params.scAlwaysSucceeds = false ∧ s.llBit = false ∧
      (s.setReservation 0x10010000).llBit = true ∧ s.operandAddress 9 0 = (s.setReservation 0x10010000).llAddr ∧
      s.allows .write (s.operandAddress 9 0) 4 ∧ s.operandAddress 9 4 ≠ (s.setReservation 0x10010000).llAddr := by
  unfold State.allows; decide

/-- The words at 0x10010000 to 0x10010003 in both byte orders, into register 8, and into register 0. -/
theorem witness_UnalignedWordLoad_and_UnalignedWordStore :
    (8 : Reg) ≠ 9#5 ∧ (9 : Reg) ≠ 1#5 ∧ [true, false].all fun big => [(0 : Imm16), 1, 2, 3].all fun off =>
      let s := startM big 0
      let a := 0x10010000#32 + off.setWidth 32
      let left := if s.params.bigEndian then a else a + 3#32
      let right := if s.params.bigEndian then a + 3#32 else a
      s.mem.wf && s.operandAddress 9 (if big then off else off + 3) == left &&
        s.operandAddress 9 (if big then off + 3 else off) == right &&
        mapAllows s.params .read (wordBase a) 4 && mapAllows s.params .read (wordBase (a + 3#32)) 4 &&
        mapAllows s.params .write (if s.params.bigEndian then left else wordBase left) (4 - s.leftKept left) &&
        mapAllows s.params .write (if s.params.bigEndian then wordBase right else right) (4 - s.rightKept right) := by
  decide

/-- Even registers at both ends, and operands of every kind: a NaN, both infinities, both zeros, the greatest finite
single, whose double is above the limit, and 2^31, which does not fit a word. -/
theorem witness_FpMoves_FpAbsNeg_FpSumProduct_FpQuotient_FpRoot_FpConversions_FpToWord_FpCompares :
    (0 : FReg).getLsbD 0 = false ∧ (30 : FReg).getLsbD 0 = false ∧ singleFormat.isNan 0x7FC00001 = true ∧
      singleValue 0x7FC00001 = .nan ∧ singleValue 0x7F800000 = .infinite false ∧
      singleValue 0xFF800000 = .infinite true ∧ singleValue 0x80000000 = .finite true 0 (-149) ∧
      singleValue 0 = .finite false 0 (-149) ∧ singleValue 0x7F7FFFFF = .finite false (2 ^ 24 - 1) 104 ∧
      singleValue 0x4F000000 = .finite false (2 ^ 23) 8 ∧ (start []).getGpr 8 = 0#32 ∧
      (start [(8, 1)]).getGpr 8 ≠ 0#32 ∧ (start []).params.fpNumerics = .ieee ∧
      ({ start [] with params := otherNumbers } : State).params.fpNumerics = .other := by decide

theorem witness_EretReturns : ({ start [] with inDelaySlot := true } : State).inDelaySlot = true ∧
    (start []).inDelaySlot = false ∧ ({ start [] with epc := 0x00400026 } : State).epc.toNat % 4 ≠ 0 ∧
    ({ start [] with epc := 0x00400026 } : State).returnFromException.sampleInputs.interruptPending = false := by
  decide

theorem witness_SyscallBreakNop_and_TrapAndReturn : (start []).params.syscallMode = .trap ∧
    ({ start [] with params := { defaultParams with syscallMode := .host } } : State).params.syscallMode = .host ∧
    (0 : Code20) ≠ 1#20 ∧ statusEXL (start []).status = false ∧ statusEXL ({ startE with status := 2 } : State).status = true := by
  decide

end Sys2Proof.Tests
end

