-- ==== Sys2Proof/Proofs/Scope.lean ====
section
/-!
PROOFS. The statements of the scope chapter: the word that a step executes (R62, R64), and for every instruction whether
it gives a next state and what of the world that state keeps (R10, R289, R401, R32, R73, R482). Both are one predicate,
`State.RunsUnless`, proved of each shared operation and then of each instruction in one case split.
-/

namespace Sys2Proof.Machine

/-! ## The value of the bytes at an address (R62) -/

theorem littleEndianValue_append_singleton (bs : List Byte) (b : Byte) :
    littleEndianValue (bs ++ [b]) = littleEndianValue bs + b.toNat * 256 ^ bs.length := by
  induction bs with
  | nil => simp [littleEndianValue]
  | cons c bs ih =>
    simp only [List.cons_append, littleEndianValue, ih, List.length_cons, Nat.pow_succ]
    ring

theorem littleEndianValue_map_range (n : Nat) (f : Nat → Byte) :
    littleEndianValue ((List.range n).map f) = byteSum n f := by
  induction n with
  | zero => rfl
  | succ n ih => simp [List.range_succ, littleEndianValue_append_singleton, ih, byteSum]

theorem Memory.readBytes_eq_map_range (m : Memory) (a : Word) (n : Nat) :
    Memory.readBytes m a n = (List.range n).map fun k => Memory.read m (a + BitVec.ofNat 32 k).toNat :=
  List.ext_getElem (by simp) fun k hk _ => by simp [Memory.readBytes_getElem m a n k hk]

theorem reverse_map_range {α : Type} (n : Nat) (f : Nat → α) :
    ((List.range n).map f).reverse = (List.range n).map fun k => f (n - 1 - k) :=
  List.ext_getElem (by simp) fun k _ _ => by simp

/-- An access reads the number its bytes make in the byte order of the run (R62). -/
theorem State.readValue_eq_assembled (s : State) (a : Word) (n : Nat) : s.readValue a n = s.assembled a n := by
  unfold State.readValue State.assembled bytesToNat
  rw [Memory.readBytes_eq_map_range]
  cases s.params.bigEndian with
  | false => exact littleEndianValue_map_range n _
  | true =>
    rw [if_pos rfl, reverse_map_range]
    exact littleEndianValue_map_range n _

/-- A fetch that the map allows delivers the word made of the four bytes (R64). -/
theorem State.fetch_eq_assembled {s : State} {a : Word} (ha : a.toNat % 4 = 0) (hx : s.allows .execute a 4) :
    s.fetch a = .ok (BitVec.ofNat 32 (s.assembled a 4)) := by
  unfold State.allows at hx
  have htake : (Memory.readBytes s.mem a 4).take 4 = Memory.readBytes s.mem a 4 := List.take_of_length_le (by simp)
  have hvalue : bytesToNat s.params.bigEndian (Memory.readBytes s.mem a 4) = s.assembled a 4 :=
    s.readValue_eq_assembled a 4
  simp [State.fetch, ha, hx, wordOfBytes, htake, hvalue]

/-! ## What the outside world leaves (R10 step 1) -/

theorem State.sampleInputs_pc (s : State) : s.sampleInputs.pc = s.pc := by
  obtain ⟨-, hpc, -⟩ := s.sampleInputs_frame
  exact hpc

theorem State.sampleInputs_world (s : State) :
    s.sampleInputs.params = s.params ∧ s.sampleInputs.inputs = s.inputs.tail ∧ s.sampleInputs.draws = s.draws := by
  obtain ⟨-, -, -, -, -, -, -, -, -, -, -, -, -, hparams, hinputs, hdraws⟩ := s.sampleInputs_frame
  exact ⟨hparams, hinputs, hdraws⟩

/-- With no interrupt and a fetch that delivers a word that decodes, the step executes the instruction (R10). -/
theorem step_of_fetch_decode {s : State} {w : Word} {i : Instr} (hirq : s.sampleInputs.interruptPending = false)
    (hfetch : s.sampleInputs.fetch s.pc = .ok w) (hdecode : decode s.params w = .ok i) :
    step s = exec i s.sampleInputs := by
  obtain ⟨hparams, -, -⟩ := s.sampleInputs_world
  rw [← s.sampleInputs_pc] at hfetch
  rw [← hparams] at hdecode
  simp [step, State.interruptOrRun, hirq, State.fetchAndRun, hfetch, State.runWord, hdecode]

/-- Settles O5: the fetch delivers the word the four bytes make, and the step decodes and executes it. -/
theorem stepRunsDecoded : Obligations.StepRunsDecoded := by
  intro s i hirq halign hexec hdecode
  obtain ⟨hparams, -, -⟩ := s.sampleInputs_world
  have hallows : s.sampleInputs.allows .execute s.pc 4 := by rwa [State.allows, hparams]
  exact step_of_fetch_decode hirq (State.fetch_eq_assembled halign hallows) hdecode

/-! ## Running unless stopped -/

/-- The parameters and the coming inputs are as before, and the count of draws has not fallen. -/
def State.keepsWorld (s t : State) : Prop := s.sameWorld t ∧ s.draws ≤ t.draws

/-- The result is a next state exactly when `stop` does not hold, and a next state keeps the world. -/
structure State.RunsUnless (s : State) (stop : Prop) (r : Result) : Prop where
  completes_iff : (∃ t, r = .next t) ↔ ¬stop
  keeps : ∀ t, r = .next t → s.keepsWorld t

section
variable {s t u : State} {P Q : Prop} {k r : Result}

theorem State.keepsWorld.advance (h : s.keepsWorld u) : s.keepsWorld u.advance := h

theorem State.keepsWorld.branchIf (h : s.keepsWorld u) (taken : Bool) (target : Word) :
    s.keepsWorld (u.branchIf taken target) := by
  cases taken <;> exact h

theorem State.keepsWorld.branchLikelyIf (h : s.keepsWorld u) (taken : Bool) (target : Word) :
    s.keepsWorld (u.branchLikelyIf taken target) := by
  cases taken <;> exact h

theorem State.keepsWorld_applyHostEffect (s : State) (e : Config.HostEffect) : s.keepsWorld (s.applyHostEffect e) := by
  obtain ⟨-, -, -, -, -, -, -, -, -, -, -, -, hparams, hinputs, hdraws⟩ := s.applyHostEffect_frame e
  exact ⟨⟨hparams, hinputs⟩, hdraws.ge⟩

theorem State.RunsUnless.congr (h : s.RunsUnless P r) (hQP : Q ↔ P) : s.RunsUnless Q r :=
  ⟨h.completes_iff.trans (not_congr hQP.symm), h.keeps⟩

theorem State.RunsUnless.of_not (h : s.RunsUnless False r) (hP : ¬P) : s.RunsUnless P r := h.congr (iff_false_intro hP)

theorem State.RunsUnless.next (h : s.keepsWorld t) : s.RunsUnless False (.next t) :=
  ⟨⟨fun _ => id, fun _ => ⟨t, rfl⟩⟩, fun _ ht => by cases ht; exact h⟩

theorem State.RunsUnless.fault (f : Fault) (hP : P) : s.RunsUnless P (.fault f) := ⟨by simp [hP], by simp⟩

theorem State.RunsUnless.refused (f : Refusal) (hP : P) : s.RunsUnless P (.refused f) := ⟨by simp [hP], by simp⟩

theorem State.raise_runs (s : State) (e : Exc) : s.RunsUnless False (s.raise e) := .next ⟨⟨rfl, rfl⟩, le_rfl⟩

/-! ## How instructions end -/

theorem State.advance_runs (s : State) : s.RunsUnless False (.next s.advance) := .next ⟨⟨rfl, rfl⟩, le_rfl⟩

theorem State.putGpr_runs (s : State) (i : Reg) (v : Word) : s.RunsUnless False (s.putGpr i v) :=
  .next ⟨⟨rfl, rfl⟩, le_rfl⟩

theorem State.putAcc_runs (s : State) (v : DWord) : s.RunsUnless False (s.putAcc v) := .next ⟨⟨rfl, rfl⟩, le_rfl⟩

theorem State.putFcc_runs (s : State) (c : CondFlag) (b : Bool) : s.RunsUnless False (s.putFcc c b) :=
  .next ⟨⟨rfl, rfl⟩, le_rfl⟩

theorem State.putQuotient_runs (s : State) (n : Nat) (lo hi : Word) :
    s.RunsUnless False ((s.drawn n).putQuotient lo hi) :=
  .next ⟨⟨rfl, rfl⟩, Nat.le_add_right _ _⟩

theorem State.putChecked_runs (s : State) (i : Reg) (e : Int) : s.RunsUnless False (s.putChecked i e) := by
  obtain ⟨-, h⟩ | ⟨-, h⟩ := s.putChecked_cases i e
  · rw [h]; exact s.raise_runs _
  · rw [h]; exact s.putGpr_runs _ _

theorem State.trapIf_runs (s : State) (c : Bool) : s.RunsUnless False (s.trapIf c) := by
  cases c with
  | false => exact s.advance_runs
  | true => exact s.raise_runs _

theorem State.moveGprIf_runs (s : State) (c : Bool) (rd : Reg) (v : Word) :
    s.RunsUnless False (s.moveGprIf c rd v) := by
  cases c with
  | false => exact s.advance_runs
  | true => exact s.putGpr_runs _ _

theorem State.moveSingleIf_runs (s : State) (c : Bool) (fd fs : FReg) :
    s.RunsUnless False (s.moveSingleIf c fd fs) := by
  cases c <;> exact .next ⟨⟨rfl, rfl⟩, le_rfl⟩

theorem State.moveDoubleIf_runs (s : State) (c : Bool) (fd fs : FReg) :
    s.RunsUnless False (s.moveDoubleIf c fd fs) := by
  cases c <;> exact .next ⟨⟨rfl, rfl⟩, le_rfl⟩

/-! ## Floating-point results -/

theorem State.putSingle_runs (s : State) (fd : FReg) (r : FpResult) : s.RunsUnless False (s.putSingle fd r) := by
  cases r with
  | bits n => exact .next ⟨⟨rfl, rfl⟩, le_rfl⟩
  | nan => exact .next ⟨⟨rfl, rfl⟩, Nat.le_add_right _ _⟩

theorem State.putDouble_runs (s : State) (fd : FReg) (r : FpResult) : s.RunsUnless False (s.putDouble fd r) := by
  cases r with
  | bits n => exact .next ⟨⟨rfl, rfl⟩, le_rfl⟩
  | nan => exact .next ⟨⟨rfl, rfl⟩, Nat.le_add_right _ _⟩

theorem State.putWord_runs (s : State) (fd : FReg) (r : Option Word) : s.RunsUnless False (s.putWord fd r) := by
  cases r with
  | some w => exact .next ⟨⟨rfl, rfl⟩, le_rfl⟩
  | none => exact .next ⟨⟨rfl, rfl⟩, Nat.le_add_right _ _⟩

theorem State.deliverSingle_runs (s : State) (fd : FReg) (r : FpResult) (f : Config.NumericsRecord → Word) :
    s.RunsUnless False (s.deliverSingle fd r f) := by
  obtain ⟨-, h⟩ | ⟨-, h⟩ := s.deliverSingle_cases fd r f
  · rw [h]; exact s.putSingle_runs _ _
  · rw [h]; exact .next ⟨⟨rfl, rfl⟩, le_rfl⟩

theorem State.deliverDouble_runs (s : State) (fd : FReg) (r : FpResult) (f : Config.NumericsRecord → DWord) :
    s.RunsUnless False (s.deliverDouble fd r f) := by
  obtain ⟨-, h⟩ | ⟨-, h⟩ := s.deliverDouble_cases fd r f
  · rw [h]; exact s.putDouble_runs _ _
  · rw [h]; exact .next ⟨⟨rfl, rfl⟩, le_rfl⟩

theorem State.deliverWord_runs (s : State) (fd : FReg) (r : Option Word) (f : Config.NumericsRecord → Word) :
    s.RunsUnless False (s.deliverWord fd r f) := by
  obtain ⟨-, h⟩ | ⟨-, h⟩ := s.deliverWord_cases fd r f
  · rw [h]; exact s.putWord_runs _ _
  · rw [h]; exact .next ⟨⟨rfl, rfl⟩, le_rfl⟩

theorem State.arithSingle_runs (s : State) (op : Config.FpArith) (fd fs ft : FReg) :
    s.RunsUnless False (s.arithSingle op fd fs ft) :=
  s.deliverSingle_runs _ _ _

theorem execSqrtS_runs (fd fs : FReg) (s : State) : s.RunsUnless False (execSqrtS fd fs s) :=
  s.deliverSingle_runs _ _ _

theorem execCvtSW_runs (fd fs : FReg) (s : State) : s.RunsUnless False (execCvtSW fd fs s) :=
  s.deliverSingle_runs _ _ _

theorem State.singleToWord_runs (s : State) (c : Config.WordConversion) (fd fs : FReg) :
    s.RunsUnless False (s.singleToWord c fd fs) :=
  s.deliverWord_runs _ _ _

/-! ## Accesses -/

theorem State.afterRead_runs {x : Except Exc Nat} {f : Nat → Result} (h : ∀ v, s.RunsUnless False (f v)) :
    s.RunsUnless False (s.afterRead x f) := by
  cases x with
  | ok v => exact h v
  | error e => exact s.raise_runs e

theorem State.loadGpr_runs (s : State) (i : Reg) (a : Word) (n : Nat) (extend : Nat → Word) :
    s.RunsUnless False (s.loadGpr i a n extend) :=
  State.afterRead_runs fun _ => s.putGpr_runs _ _

theorem State.afterMemStore_runs {a : Word} {n v : Nat} {f : State → Result}
    (h : s.RunsUnless False (f (s.writeValue a n v))) : s.RunsUnless False (s.afterWrite (s.memStore a n v) f) := by
  obtain ⟨-, hr⟩ | ⟨-, hr⟩ := s.memStore_cases a n v
  · rw [hr]; exact h
  · rw [hr]; exact s.raise_runs _

theorem State.afterMemWrite_runs {a : Word} {n v : Nat} {f : State → Result}
    (h : s.RunsUnless False (f (s.writeValue a n v))) : s.RunsUnless False (s.afterWrite (s.memWrite a n v) f) := by
  obtain ⟨-, hr⟩ | ⟨-, -, hr⟩ | ⟨-, -, hr⟩ := s.memWrite_cases a n v
  · rw [hr]; exact s.raise_runs _
  · rw [hr]; exact h
  · rw [hr]; exact s.raise_runs _

theorem State.storeValue_runs (s : State) (a : Word) (n v : Nat) : s.RunsUnless False (s.storeValue a n v) :=
  State.afterMemWrite_runs (.next ⟨⟨rfl, rfl⟩, le_rfl⟩)

/-! ## Refusals -/

/-- A control transfer stops in a delay slot and, where it links, on its own link register (R289). -/
theorem State.RunsUnless.unlessInDelaySlot (hazard : Bool) (h : s.RunsUnless False k) :
    s.RunsUnless (s.inDelaySlot = true ∨ hazard = true) (s.unlessInDelaySlot (unlessLinkHazard hazard k)) := by
  unfold State.unlessInDelaySlot unlessLinkHazard
  cases hslot : s.inDelaySlot with
  | true => exact .refused _ (by simp)
  | false =>
    cases hazard with
    | true => exact .refused _ (by simp)
    | false => exact h.of_not (by simp)

theorem State.RunsUnless.whenEven (ok : Bool) (h : s.RunsUnless False k) :
    s.RunsUnless (ok = false) (whenEven ok k) := by
  cases ok with
  | false => exact .refused _ (by simp)
  | true => exact h.of_not (by simp)

end

/-! ## Instructions with more than one end -/

theorem execDiv_runs (rs rt : Reg) (s : State) : s.RunsUnless False (execDiv rs rt s) := by
  unfold execDiv
  dsimp only
  split
  · exact s.putQuotient_runs _ _ _
  · split
    · exact s.putQuotient_runs 0 _ _
    · exact s.putQuotient_runs _ _ _

theorem execDivu_runs (rs rt : Reg) (s : State) : s.RunsUnless False (execDivu rs rt s) := by
  unfold execDivu
  dsimp only
  split
  · exact s.putQuotient_runs _ _ _
  · exact s.putQuotient_runs 0 _ _

/-- `sc` is refused at an aligned address other than the reservation's, unless it always succeeds (R73; log 24). -/
theorem execSc_runs (rt : Reg) (off : Imm16) (rs : Reg) (s : State) :
    s.RunsUnless (s.scMismatch (.sc rt off rs)) (execSc rt off rs s) := by
  unfold execSc State.scMismatch
  dsimp only
  split
  · next halign => exact (s.raise_runs _).of_not (by simp [halign])
  · next halign =>
    split
    · next hreserved =>
      split
      · next hother => exact .refused _ (by simp_all)
      · next hsame =>
        exact .of_not (State.afterMemWrite_runs (.next ⟨⟨rfl, rfl⟩, le_rfl⟩)) (by simp_all)
    · next hnone => exact .of_not (.next ⟨⟨rfl, rfl⟩, le_rfl⟩) (by simp_all)

theorem cop0Exists_iff (n : Reg) :
    cop0Exists n = true ↔ n.toNat = 8 ∨ n.toNat = 12 ∨ n.toNat = 13 ∨ n.toNat = 14 := by
  revert n; decide

theorem State.readCop0_eq_none_iff (s : State) (n : Reg) : s.readCop0 n = none ↔ cop0Exists n = false := by
  rw [← Bool.not_eq_true, cop0Exists_iff]
  unfold State.readCop0
  split <;> simp_all

theorem State.writeCop0_eq_none_iff (s : State) (n : Reg) (v : Word) :
    s.writeCop0 n v = none ↔ cop0Exists n = false := by
  rw [← Bool.not_eq_true, cop0Exists_iff]
  unfold State.writeCop0
  split <;> simp_all

theorem State.keepsWorld_of_writeCop0 {s t : State} {n : Reg} {v : Word} (h : s.writeCop0 n v = some t) :
    s.keepsWorld t := by
  unfold State.writeCop0 at h
  split at h <;> cases h <;> exact ⟨⟨rfl, rfl⟩, le_rfl⟩

theorem execMfc0_runs (rt rd : Reg) (s : State) : s.RunsUnless (cop0Exists rd = false) (execMfc0 rt rd s) := by
  rw [← s.readCop0_eq_none_iff]
  unfold execMfc0
  cases s.readCop0 rd with
  | some v => exact (s.putGpr_runs _ _).of_not nofun
  | none => exact .refused _ rfl

theorem execMtc0_runs (rt rd : Reg) (s : State) : s.RunsUnless (cop0Exists rd = false) (execMtc0 rt rd s) := by
  rw [← s.writeCop0_eq_none_iff rd (s.getGpr rt)]
  unfold execMtc0
  cases ht : s.writeCop0 rd (s.getGpr rt) with
  | some t => exact .of_not (.next (State.keepsWorld_of_writeCop0 ht).advance) nofun
  | none => exact .refused _ rfl

theorem execSyscall_runs (s : State) :
    s.RunsUnless (s.params.syscallMode = .host ∧ s.hostService.endsRun = true) (execSyscall s) := by
  unfold execSyscall
  cases hmode : s.params.syscallMode with
  | trap => exact (s.raise_runs _).of_not (by simp)
  | host =>
    cases hends : s.hostService.endsRun with
    | true => exact .fault _ (by simp)
    | false =>
      obtain ⟨hworld, hdraws⟩ := s.keepsWorld_applyHostEffect s.hostService
      exact .of_not (.next ⟨hworld, Nat.le_add_right_of_le hdraws⟩) (by simp)

theorem execBrk_runs (code : Code20) (s : State) : s.RunsUnless (code = 1#20) (execBrk code s) := by
  unfold execBrk
  split
  · next hcode => exact .fault _ (by simp [hcode])
  · next hcode => exact (s.raise_runs _).of_not (by simp [hcode])

/-! ## The reasons to stop, for each kind of instruction -/

/-- `mfc0`, `mtc0`, `sc`, `break` and `syscall`: what may stop them is their own. -/
def stopsItsOwnWay : Instr → Bool
  | .mfc0 _ _ | .mtc0 _ _ | .sc _ _ _ | .brk _ | .syscall => true
  | _ => false

theorem transfersControl_of_linkHazard {i : Instr} (h : linkHazard i = true) : transfersControl i = true := by
  cases i with
  | bgezal | bltzal | bgezall | bltzall | jalr => rfl
  | _ => exact (Bool.false_ne_true h).elim

theorem stopsItsOwnWay_of_namesAbsentCop0 {i : Instr} (h : namesAbsentCop0 i = true) : stopsItsOwnWay i = true := by
  cases i with
  | mfc0 | mtc0 => rfl
  | _ => exact (Bool.false_ne_true h).elim

theorem State.stopsItsOwnWay_of_scMismatch {s : State} {i : Instr} (h : s.scMismatch i) : stopsItsOwnWay i = true := by
  cases i with
  | sc => rfl
  | _ => exact False.elim h

theorem linkHazard_eq_false {i : Instr} (h : transfersControl i = false) : linkHazard i = false :=
  Bool.eq_false_iff.mpr fun hn => by simp [transfersControl_of_linkHazard hn] at h

theorem hasOddDouble_eq_false {i : Instr} (h : doubleOperands i = []) : hasOddDouble i = false := by
  simp [hasOddDouble, h]

/-- An instruction that is no control transfer and names no double stops for one of the last four reasons
only. -/
theorem State.stopsAt_iff_of_own {i : Instr} (s : State) (htransfer : transfersControl i = false)
    (hdouble : doubleOperands i = []) :
    s.stopsAt i ↔ namesAbsentCop0 i = true ∨ s.scMismatch i ∨ i = .brk 1#20 ∨
      (i = .syscall ∧ s.params.syscallMode = .host ∧ s.hostService.endsRun = true) := by
  simp [State.stopsAt, htransfer, linkHazard_eq_false htransfer, hasOddDouble_eq_false hdouble]

/-- Every other instruction stops for one of the first three reasons only. -/
theorem State.stopsAt_iff_of_common {i : Instr} (s : State) (h : stopsItsOwnWay i = false) :
    s.stopsAt i ↔ (transfersControl i = true ∧ s.inDelaySlot = true) ∨ linkHazard i = true ∨ hasOddDouble i = true := by
  have hcop : ¬namesAbsentCop0 i = true := fun hn => by simp [stopsItsOwnWay_of_namesAbsentCop0 hn] at h
  have hsc : ¬s.scMismatch i := fun hn => by simp [State.stopsItsOwnWay_of_scMismatch hn] at h
  have hbrk : i ≠ .brk 1#20 := by rintro rfl; cases h
  have hsys : i ≠ .syscall := by rintro rfl; cases h
  simp [State.stopsAt, hcop, hsc, hbrk, hsys]

section
variable {s : State} {i : Instr} {P : Prop} {k r : Result}

theorem State.RunsUnless.of_plain (hown : stopsItsOwnWay i = false) (htransfer : transfersControl i = false)
    (hdouble : doubleOperands i = []) (h : s.RunsUnless False r) : s.RunsUnless (s.stopsAt i) r := by
  refine h.of_not ?_
  simp [s.stopsAt_iff_of_common hown, htransfer, linkHazard_eq_false htransfer, hasOddDouble_eq_false hdouble]

theorem State.RunsUnless.of_own (htransfer : transfersControl i = false) (hdouble : doubleOperands i = [])
    (h : s.RunsUnless P r)
    (hP : P ↔ namesAbsentCop0 i = true ∨ s.scMismatch i ∨ i = .brk 1#20 ∨
      (i = .syscall ∧ s.params.syscallMode = .host ∧ s.hostService.endsRun = true)) :
    s.RunsUnless (s.stopsAt i) r :=
  h.congr ((s.stopsAt_iff_of_own htransfer hdouble).trans hP.symm)

/-- A branch, jump or `eret` stops in a delay slot and, where it links, on its own link register (R289). -/
theorem State.RunsUnless.of_transfer (hown : stopsItsOwnWay i = false) (htransfer : transfersControl i = true)
    (hdouble : doubleOperands i = []) (h : s.RunsUnless False k) :
    s.RunsUnless (s.stopsAt i) (s.unlessInDelaySlot (unlessLinkHazard (linkHazard i) k)) := by
  refine (State.RunsUnless.unlessInDelaySlot (linkHazard i) h).congr ?_
  simp [s.stopsAt_iff_of_common hown, htransfer, hasOddDouble_eq_false hdouble]

/-- A double-precision instruction stops on an odd register (R401). -/
theorem State.RunsUnless.of_double {ok : Bool} (hown : stopsItsOwnWay i = false)
    (htransfer : transfersControl i = false) (hok : ok = (doubleOperands i).all evenFpr) (h : s.RunsUnless False k) :
    s.RunsUnless (s.stopsAt i) (Machine.whenEven ok k) := by
  refine (State.RunsUnless.whenEven ok h).congr ?_
  simp [s.stopsAt_iff_of_common hown, htransfer, linkHazard_eq_false htransfer, hok, hasOddDouble, evenFpr]

end

/-- Every instruction gives a next state unless the spec stops it, and a next state keeps the world (R10). The
arguments `rfl` read off the tables of Safety.lean of which kind the instruction is. -/
theorem exec_runsUnless_stopsAt (i : Instr) (s : State) : s.RunsUnless (s.stopsAt i) (exec i s) := by
  cases i with
  -- Arithmetic, logic, constants, comparisons
  | add | addi | sub => exact .of_plain rfl rfl rfl (s.putChecked_runs _ _)
  | addu | addiu | subu | and | andi | nor | or | ori | xor | xori | clo | clz | sll | sllv | sra | srav | srl | srlv
  | lui | slt | sltu | slti | sltiu | mfhi | mflo | mfc1 => exact .of_plain rfl rfl rfl (s.putGpr_runs _ _)
  | mult | multu | madd | maddu | msub | msubu => exact .of_plain rfl rfl rfl (s.putAcc_runs _)
  | mul => exact .of_plain rfl rfl rfl (.next ⟨⟨rfl, rfl⟩, Nat.le_succ _⟩)
  | div rs rt => exact .of_plain rfl rfl rfl (execDiv_runs rs rt s)
  | divu rs rt => exact .of_plain rfl rfl rfl (execDivu_runs rs rt s)
  -- Branches, jumps, traps
  | bc1f | bc1t | beq | bgez | bgezal | bgtz | blez | bltzal | bltz | bne =>
    exact .of_transfer rfl rfl rfl (.next (.branchIf ⟨⟨rfl, rfl⟩, le_rfl⟩ _ _))
  | bc1fl | bc1tl | beql | bgezl | bgezall | bgtzl | blezl | bltzall | bltzl | bnel =>
    exact .of_transfer rfl rfl rfl (.next (.branchLikelyIf ⟨⟨rfl, rfl⟩, le_rfl⟩ _ _))
  | j | jal | jalr | jr | eret => exact .of_transfer rfl rfl rfl (.next ⟨⟨rfl, rfl⟩, le_rfl⟩)
  | teq | teqi | tne | tnei | tge | tgeu | tgei | tgeiu | tlt | tltu | tlti | tltiu =>
    exact .of_plain rfl rfl rfl (s.trapIf_runs _)
  -- Loads and stores
  | lb | lbu | lh | lhu | lw => exact .of_plain rfl rfl rfl (s.loadGpr_runs _ _ _ _)
  | lwl | lwr => exact .of_plain rfl rfl rfl (State.afterRead_runs fun _ => s.putGpr_runs _ _)
  | lwc1 | ll => exact .of_plain rfl rfl rfl (State.afterRead_runs fun _ => .next ⟨⟨rfl, rfl⟩, le_rfl⟩)
  | ldc1 =>
    exact .of_double rfl rfl (by simp [doubleOperands]) (State.afterRead_runs fun _ => .next ⟨⟨rfl, rfl⟩, le_rfl⟩)
  | sb | sh | sw | swc1 => exact .of_plain rfl rfl rfl (s.storeValue_runs _ _ _)
  | swl | swr => exact .of_plain rfl rfl rfl (State.afterMemStore_runs (.next ⟨⟨rfl, rfl⟩, le_rfl⟩))
  | sdc1 => exact .of_double rfl rfl (by simp [doubleOperands]) (s.storeValue_runs _ _ _)
  | sc rt off rs => exact .of_own rfl rfl (execSc_runs rt off rs s) (by simp [namesAbsentCop0, State.scMismatch])
  -- Data movement
  | mthi | mtlo | mtc1 => exact .of_plain rfl rfl rfl (.next ⟨⟨rfl, rfl⟩, le_rfl⟩)
  | mfc0 rt rd => exact .of_own rfl rfl (execMfc0_runs rt rd s) (by simp [namesAbsentCop0, State.scMismatch])
  | mtc0 rt rd => exact .of_own rfl rfl (execMtc0_runs rt rd s) (by simp [namesAbsentCop0, State.scMismatch])
  | movn | movz | movf | movt => exact .of_plain rfl rfl rfl (s.moveGprIf_runs _ _ _)
  -- Floating point
  | absS | negS => exact .of_plain rfl rfl rfl (s.putSingle_runs _ _)
  | addS | subS | mulS | divS => exact .of_plain rfl rfl rfl (s.arithSingle_runs _ _ _ _)
  | sqrtS fd fs => exact .of_plain rfl rfl rfl (execSqrtS_runs fd fs s)
  | cvtSW fd fs => exact .of_plain rfl rfl rfl (execCvtSW_runs fd fs s)
  | ceilWS | cvtWS | floorWS | roundWS | truncWS => exact .of_plain rfl rfl rfl (s.singleToWord_runs _ _ _)
  | cEqS | cLeS | cLtS => exact .of_plain rfl rfl rfl (s.putFcc_runs _ _)
  | movS => exact .of_plain rfl rfl rfl (.next ⟨⟨rfl, rfl⟩, le_rfl⟩)
  | movfS | movtS | movnS | movzS => exact .of_plain rfl rfl rfl (s.moveSingleIf_runs _ _ _)
  | absD | negD => exact .of_double rfl rfl (by simp [doubleOperands]) (s.putDouble_runs _ _)
  | addD | subD | mulD | divD | sqrtD | cvtDS | cvtDW =>
    exact .of_double rfl rfl (by simp [doubleOperands, Bool.and_assoc]) (s.deliverDouble_runs _ _ _)
  | cvtSD => exact .of_double rfl rfl (by simp [doubleOperands]) (s.deliverSingle_runs _ _ _)
  | ceilWD | cvtWD | floorWD | roundWD | truncWD =>
    exact .of_double rfl rfl (by simp [doubleOperands]) (s.deliverWord_runs _ _ _)
  | cEqD | cLeD | cLtD => exact .of_double rfl rfl (by simp [doubleOperands]) (s.putFcc_runs _ _)
  | movD => exact .of_double rfl rfl (by simp [doubleOperands]) (.next ⟨⟨rfl, rfl⟩, le_rfl⟩)
  | movfD | movtD | movnD | movzD =>
    exact .of_double rfl rfl (by simp [doubleOperands]) (s.moveDoubleIf_runs _ _ _)
  -- Exceptions
  | syscall => exact .of_own rfl rfl (execSyscall_runs s) (by simp [namesAbsentCop0, State.scMismatch])
  | brk code => exact .of_own rfl rfl (execBrk_runs code s) (by simp [namesAbsentCop0, State.scMismatch])
  | nop => exact .of_plain rfl rfl rfl s.advance_runs

/-- Settles O13, from what each instruction does. -/
theorem runsUnlessStopped : Obligations.RunsUnlessStopped :=
  fun i s => (exec_runsUnless_stopsAt i s).completes_iff

/-- A step that gives a next state keeps the world as the outside left it. -/
theorem step_keepsWorld {s t : State} (h : step s = .next t) : s.sampleInputs.keepsWorld t := by
  obtain ⟨-, hstep⟩ | ⟨-, ⟨e, -, hstep⟩ | ⟨w, -, ⟨d, -, hstep⟩ | ⟨i, -, hstep⟩⟩⟩ := step_cases s
  · exact (s.sampleInputs.raise_runs _).keeps t (hstep.symm.trans h)
  · exact (s.sampleInputs.raise_runs e).keeps t (hstep.symm.trans h)
  · exact (s.sampleInputs.raise_runs _).keeps t (hstep.symm.trans h)
  · exact (exec_runsUnless_stopsAt i s.sampleInputs).keeps t (hstep.symm.trans h)

/-- Settles O12: the outside world consumes the input, and what the step does then keeps the world. -/
theorem stepKeepsParameters : Obligations.StepKeepsParameters := by
  intro s t h
  obtain ⟨⟨hparams, hinputs⟩, hdraws⟩ := step_keepsWorld h
  obtain ⟨hparams₀, hinputs₀, hdraws₀⟩ := s.sampleInputs_world
  exact ⟨hparams.trans hparams₀, hinputs.trans hinputs₀, hdraws₀ ▸ hdraws⟩

end Sys2Proof.Machine
end

/-!
PROOFS. The statements of the state chapter: the invariant that every step keeps (R22, R25, R30, R60), and which
instructions write register 0, coprocessor 0, the condition flags, the accumulator and the reservation (R22, R28 to R31,
R26, R35, R37). All rest on one inversion lemma, `exec_follows`: the next state of an instruction is trap entry, or a
well-placed state in which each guarded part has changed only if the instruction is one of its writers.
-/

namespace Sys2Proof.Machine

/-! ## The bits of `Cause` that do not exist (R30) -/

/-- To replace a field of `Cause` made of bits that exist leaves the bits that do not exist. -/
theorem absentCause_replace {keep field : Word} (c : Word) (hkeep : keep &&& ~~~causeMask = ~~~causeMask)
    (hfield : field &&& ~~~causeMask = 0#32) : (c &&& keep ||| field) &&& ~~~causeMask = c &&& ~~~causeMask := by
  rw [BitVec.and_or_distrib_right, BitVec.and_assoc, hkeep, hfield, BitVec.or_zero]

theorem absentCause_setExcCode (code : BitVec 5) (c : Word) :
    setExcCode code c &&& ~~~causeMask = c &&& ~~~causeMask :=
  absentCause_replace c (by decide) (by revert code; decide)

theorem absentCause_setHardwareIP (lines : BitVec 6) (c : Word) :
    setHardwareIP lines c &&& ~~~causeMask = c &&& ~~~causeMask :=
  absentCause_replace c (by decide) (by revert lines; decide)

theorem absentCause_setBD (b : Bool) (c : Word) : setBD b c &&& ~~~causeMask = c &&& ~~~causeMask := by
  have hkeep : 0x7FFFFFFF#32 &&& ~~~causeMask = ~~~causeMask := by decide
  have hfield : 0x80000000#32 &&& ~~~causeMask = 0#32 := by decide
  cases b with
  | false =>
    show (c &&& 0x7FFFFFFF#32) &&& ~~~causeMask = _
    rw [BitVec.and_assoc, hkeep]
  | true =>
    show (c ||| 0x80000000#32) &&& ~~~causeMask = _
    rw [BitVec.and_or_distrib_right, hfield, BitVec.or_zero]

theorem absentCause_writeCause (c v : Word) : writeCause c v &&& ~~~causeMask = c &&& ~~~causeMask := by
  refine absentCause_replace c (by decide) ?_
  have hwritable : causeWritable &&& ~~~causeMask = 0#32 := by decide
  rw [BitVec.and_assoc, hwritable, BitVec.and_zero]

theorem absentCause_takeException (s : State) (e : Exc) :
    (s.takeException e).cause &&& ~~~causeMask = s.cause &&& ~~~causeMask := by
  rw [State.takeException_cause, absentCause_setExcCode]
  split
  · rfl
  · exact absentCause_setBD _ _

/-! ## Control after an instruction (R25) -/

/-- Outside a delay slot the next instruction is the following one, and without delayed branches no instruction is in a
delay slot (R25). -/
structure State.WellPlaced (s : State) : Prop where
  following : s.inDelaySlot = false → s.npc = s.pc + 4#32
  noSlot : s.params.delayedBranches = false → s.inDelaySlot = false

theorem State.inv_iff (s : State) :
    s.Inv ↔ s.mem.wf = true ∧ s.gpr[0] = 0#32 ∧ s.cause &&& ~~~causeMask = 0#32 ∧ s.WellPlaced :=
  ⟨fun ⟨hmem, hzero, hcause, hnext, hslot⟩ => ⟨hmem, hzero, hcause, hnext, hslot⟩,
    fun ⟨hmem, hzero, hcause, hnext, hslot⟩ => ⟨hmem, hzero, hcause, hnext, hslot⟩⟩

theorem State.advance_wellPlaced (s : State) : s.advance.WellPlaced := ⟨fun _ => rfl, fun _ => rfl⟩

theorem State.transferTo_wellPlaced (s : State) (target : Word) : (s.transferTo target).WellPlaced := by
  refine ⟨fun hslot => ?_, id⟩
  have hdelayed : s.params.delayedBranches = false := hslot
  simp [State.transferTo, hdelayed]

theorem State.branchIf_wellPlaced (s : State) (taken : Bool) (target : Word) :
    (s.branchIf taken target).WellPlaced := by
  cases taken with
  | false => exact ⟨fun _ => rfl, id⟩
  | true => exact s.transferTo_wellPlaced target

theorem State.branchLikelyIf_wellPlaced (s : State) (taken : Bool) (target : Word) :
    (s.branchLikelyIf taken target).WellPlaced := by
  cases taken with
  | true => exact s.transferTo_wellPlaced target
  | false =>
    refine ⟨fun _ => ?_, fun _ => rfl⟩
    show (if s.params.delayedBranches then s.npc + 8#32 else s.npc + 4#32) =
      (if s.params.delayedBranches then s.npc + 4#32 else s.npc) + 4#32
    cases s.params.delayedBranches with
    | false => rfl
    | true => simp [BitVec.add_assoc]

theorem State.returnFromException_wellPlaced (s : State) : s.returnFromException.WellPlaced :=
  ⟨fun _ => rfl, fun _ => rfl⟩

theorem State.takeException_wellPlaced (s : State) (e : Exc) : (s.takeException e).WellPlaced :=
  ⟨fun _ => rfl, fun _ => rfl⟩

/-! ## What an instruction may write -/

/-- Each guarded part of the state is as in `s`, or `i` is one of its writers. -/
structure State.Within (s : State) (i : Instr) (t : State) : Prop where
  zeroEntry : t.gpr[0] = s.gpr[0]
  canonical : s.mem.wf = true → t.mem.wf = true
  absentCause : t.cause &&& ~~~causeMask = s.cause &&& ~~~causeMask
  status : t.status = s.status ∨ i = .eret ∨ ∃ rt, i = .mtc0 rt 12#5
  cause : t.cause = s.cause ∨ ∃ rt, i = .mtc0 rt 13#5
  epc : t.epc = s.epc ∨ ∃ rt, i = .mtc0 rt 14#5
  badVAddr : t.badVAddr = s.badVAddr
  fcc : isCompare i = false → s.sameFccs t
  acc : writesAcc i = false → s.sameAcc t
  reservation : writesReservation i = false → s.sameReservation t

/-- The next states of an instruction: trap entry, or a well-placed state in which it wrote only what it may. -/
inductive State.Follows (s : State) (i : Instr) : State → Prop
  | raised (e : Exc) : s.Follows i (s.takeException e)
  | ended {t : State} : s.Within i t → t.WellPlaced → s.Follows i t

/-- A next state, if the result is one, follows. -/
def State.Ends (s : State) (i : Instr) (r : Result) : Prop := ∀ t, r = .next t → s.Follows i t

theorem State.setGpr_sameZeroEntry (s : State) (r : Reg) (v : Word) : (s.setGpr r v).gpr[0] = s.gpr[0] := by
  rw [State.setGpr_gpr]
  split
  · rfl
  · next hr =>
    have hne : r.toNat ≠ 0 := fun h => hr (BitVec.eq_of_toNat_eq h)
    simp [hne]

section
variable {s t u : State} {i : Instr} {k : Result}

theorem State.Within.refl (s : State) (i : Instr) : s.Within i s where
  zeroEntry := rfl
  canonical := id
  absentCause := rfl
  status := .inl rfl
  cause := .inl rfl
  epc := .inl rfl
  badVAddr := rfl
  fcc _ _ := rfl
  acc _ := ⟨rfl, rfl⟩
  reservation _ := ⟨rfl, rfl⟩

/-! ### Updates that every instruction may make -/

theorem State.Within.setGpr (h : s.Within i u) (r : Reg) (v : Word) : s.Within i (u.setGpr r v) :=
  { h with zeroEntry := (u.setGpr_sameZeroEntry r v).trans h.zeroEntry }

theorem State.Within.setFpr (h : s.Within i u) (r : FReg) (v : Word) : s.Within i (u.setFpr r v) := { h with }

theorem State.Within.setDouble (h : s.Within i u) (r : FReg) (v : DWord) : s.Within i (u.setDouble r v) := { h with }

theorem State.Within.writeValue (h : s.Within i u) (a : Word) (n v : Nat) : s.Within i (u.writeValue a n v) :=
  { h with canonical := fun hs => u.writeValue_wf a n v (h.canonical hs) }

theorem State.Within.writeByte (h : s.Within i u) (a : Word) (b : Byte) :
    s.Within i { u with mem := Memory.write u.mem a.toNat b } :=
  { h with canonical := fun hs => Memory.wf_write u.mem a.toNat b (h.canonical hs) a.isLt }

theorem State.Within.drawn (h : s.Within i u) (n : Nat) : s.Within i (u.drawn n) := { h with }

theorem State.Within.applyHostEffect (h : s.Within i u) (e : Config.HostEffect) : s.Within i (u.applyHostEffect e) :=
  State.applyHostEffect_invariant (s.Within i) (fun _ r v ht => ht.setGpr r v) (fun _ r v ht => ht.setFpr r v)
    (fun _ a b ht => ht.writeByte a b) u e h

/-! ### Updates of the parts with named writers -/

theorem State.Within.setFcc (h : s.Within i u) (hi : isCompare i = true) (c : CondFlag) (b : Bool) :
    s.Within i (u.setFcc c b) :=
  { h with fcc := fun hn => absurd hi (by simp [hn]) }

theorem State.Within.setHiLo (h : s.Within i u) (hi : writesAcc i = true) (x y : Word) :
    s.Within i { u with hi := x, lo := y } :=
  { h with acc := fun hn => absurd hi (by simp [hn]) }

theorem State.Within.setReservation (h : s.Within i u) (hi : writesReservation i = true) (a : Word) :
    s.Within i (u.setReservation a) :=
  { h with reservation := fun hn => absurd hi (by simp [hn]) }

theorem State.Within.clearReservation (h : s.Within i u) (hi : writesReservation i = true) :
    s.Within i u.clearReservation :=
  { h with reservation := fun hn => absurd hi (by simp [hn]) }

theorem State.within_returnFromException (s : State) : s.Within .eret s.returnFromException :=
  { State.Within.refl s .eret with status := .inr (.inl rfl), reservation := nofun }

theorem State.within_of_writeCop0 {rd : Reg} {v : Word} (rt : Reg) (h : s.writeCop0 rd v = some t) :
    s.Within (.mtc0 rt rd) t := by
  have hself := State.Within.refl s (.mtc0 rt rd)
  unfold State.writeCop0 at h
  split at h
  case h_1 => cases h; exact hself
  case h_2 hrd =>
    obtain rfl : rd = 12#5 := BitVec.eq_of_toNat_eq hrd
    cases h
    exact { hself with status := .inr (.inr ⟨rt, rfl⟩) }
  case h_3 hrd =>
    obtain rfl : rd = 13#5 := BitVec.eq_of_toNat_eq hrd
    cases h
    exact { hself with cause := .inr ⟨rt, rfl⟩, absentCause := absentCause_writeCause _ _ }
  case h_4 hrd =>
    obtain rfl : rd = 14#5 := BitVec.eq_of_toNat_eq hrd
    cases h
    exact { hself with epc := .inr ⟨rt, rfl⟩ }
  case h_5 => cases h

/-! ## How instructions end -/

theorem State.Ends.next (h : s.Follows i t) : s.Ends i (.next t) := fun _ ht => by cases ht; exact h

theorem State.Ends.fault (f : Fault) : s.Ends i (.fault f) := fun _ ht => by cases ht

theorem State.Ends.refused (f : Refusal) : s.Ends i (.refused f) := fun _ ht => by cases ht

theorem State.raise_ends (s : State) (i : Instr) (e : Exc) : s.Ends i (s.raise e) := .next (.raised e)

theorem State.Within.goesOn (h : s.Within i u) : s.Ends i (.next u.advance) :=
  .next (.ended { h with } u.advance_wellPlaced)

theorem State.Within.transferTo (h : s.Within i u) (target : Word) : s.Ends i (.next (u.transferTo target)) :=
  .next (.ended { h with } (u.transferTo_wellPlaced target))

theorem State.Within.branchIf (h : s.Within i u) (taken : Bool) (target : Word) :
    s.Ends i (.next (u.branchIf taken target)) := by
  refine .next (.ended ?_ (u.branchIf_wellPlaced taken target))
  cases taken <;> exact { h with }

theorem State.Within.branchLikelyIf (h : s.Within i u) (taken : Bool) (target : Word) :
    s.Ends i (.next (u.branchLikelyIf taken target)) := by
  refine .next (.ended ?_ (u.branchLikelyIf_wellPlaced taken target))
  cases taken <;> exact { h with }

theorem State.advance_ends (s : State) (i : Instr) : s.Ends i (.next s.advance) := (State.Within.refl s i).goesOn

theorem State.putGpr_ends (s : State) (i : Instr) (r : Reg) (v : Word) : s.Ends i (s.putGpr r v) :=
  ((State.Within.refl s i).setGpr r v).goesOn

theorem State.setFpr_ends (s : State) (i : Instr) (r : FReg) (v : Word) : s.Ends i (.next (s.setFpr r v).advance) :=
  ((State.Within.refl s i).setFpr r v).goesOn

theorem State.setDouble_ends (s : State) (i : Instr) (r : FReg) (v : DWord) :
    s.Ends i (.next (s.setDouble r v).advance) :=
  ((State.Within.refl s i).setDouble r v).goesOn

theorem State.putChecked_ends (s : State) (i : Instr) (r : Reg) (x : Int) : s.Ends i (s.putChecked r x) := by
  obtain ⟨-, h⟩ | ⟨-, h⟩ := s.putChecked_cases r x
  · rw [h]; exact s.raise_ends i _
  · rw [h]; exact s.putGpr_ends i _ _

theorem State.putHiLo_ends (s : State) (hi : writesAcc i = true) (x y : Word) :
    s.Ends i (.next { s with hi := x, lo := y }.advance) :=
  ((State.Within.refl s i).setHiLo hi x y).goesOn

theorem State.putQuotient_ends (s : State) (hi : writesAcc i = true) (n : Nat) (x y : Word) :
    s.Ends i ((s.drawn n).putQuotient x y) :=
  (((State.Within.refl s i).drawn n).setHiLo hi y x).goesOn

theorem State.putFcc_ends (s : State) (hi : isCompare i = true) (c : CondFlag) (b : Bool) :
    s.Ends i (s.putFcc c b) :=
  ((State.Within.refl s i).setFcc hi c b).goesOn

theorem State.trapIf_ends (s : State) (i : Instr) (c : Bool) : s.Ends i (s.trapIf c) := by
  cases c with
  | false => exact s.advance_ends i
  | true => exact s.raise_ends i _

theorem State.moveGprIf_ends (s : State) (i : Instr) (c : Bool) (r : Reg) (v : Word) :
    s.Ends i (s.moveGprIf c r v) := by
  cases c with
  | false => exact s.advance_ends i
  | true => exact s.putGpr_ends i _ _

theorem State.moveSingleIf_ends (s : State) (i : Instr) (c : Bool) (fd fs : FReg) :
    s.Ends i (s.moveSingleIf c fd fs) := by
  cases c with
  | false => exact s.advance_ends i
  | true => exact s.setFpr_ends i _ _

theorem State.moveDoubleIf_ends (s : State) (i : Instr) (c : Bool) (fd fs : FReg) :
    s.Ends i (s.moveDoubleIf c fd fs) := by
  cases c with
  | false => exact s.advance_ends i
  | true => exact s.setDouble_ends i _ _

/-! ### Floating-point results -/

theorem State.putSingle_ends (s : State) (i : Instr) (fd : FReg) (r : FpResult) : s.Ends i (s.putSingle fd r) := by
  cases r with
  | bits n => exact s.setFpr_ends i _ _
  | nan => exact (((State.Within.refl s i).setFpr _ _).drawn 1).goesOn

theorem State.putDouble_ends (s : State) (i : Instr) (fd : FReg) (r : FpResult) : s.Ends i (s.putDouble fd r) := by
  cases r with
  | bits n => exact s.setDouble_ends i _ _
  | nan => exact (((State.Within.refl s i).setDouble _ _).drawn 1).goesOn

theorem State.putWord_ends (s : State) (i : Instr) (fd : FReg) (r : Option Word) : s.Ends i (s.putWord fd r) := by
  cases r with
  | some w => exact s.setFpr_ends i _ _
  | none => exact (((State.Within.refl s i).setFpr _ _).drawn 1).goesOn

theorem State.deliverSingle_ends (s : State) (i : Instr) (fd : FReg) (r : FpResult)
    (f : Config.NumericsRecord → Word) : s.Ends i (s.deliverSingle fd r f) := by
  obtain ⟨-, h⟩ | ⟨-, h⟩ := s.deliverSingle_cases fd r f
  · rw [h]; exact s.putSingle_ends i _ _
  · rw [h]; exact s.setFpr_ends i _ _

theorem State.deliverDouble_ends (s : State) (i : Instr) (fd : FReg) (r : FpResult)
    (f : Config.NumericsRecord → DWord) : s.Ends i (s.deliverDouble fd r f) := by
  obtain ⟨-, h⟩ | ⟨-, h⟩ := s.deliverDouble_cases fd r f
  · rw [h]; exact s.putDouble_ends i _ _
  · rw [h]; exact s.setDouble_ends i _ _

theorem State.deliverWord_ends (s : State) (i : Instr) (fd : FReg) (r : Option Word)
    (f : Config.NumericsRecord → Word) : s.Ends i (s.deliverWord fd r f) := by
  obtain ⟨-, h⟩ | ⟨-, h⟩ := s.deliverWord_cases fd r f
  · rw [h]; exact s.putWord_ends i _ _
  · rw [h]; exact s.setFpr_ends i _ _

theorem State.arithSingle_ends (s : State) (i : Instr) (op : Config.FpArith) (fd fs ft : FReg) :
    s.Ends i (s.arithSingle op fd fs ft) :=
  s.deliverSingle_ends i _ _ _

theorem State.singleToWord_ends (s : State) (i : Instr) (c : Config.WordConversion) (fd fs : FReg) :
    s.Ends i (s.singleToWord c fd fs) :=
  s.deliverWord_ends i _ _ _

theorem execSqrtS_ends (fd fs : FReg) (s : State) : s.Ends (.sqrtS fd fs) (execSqrtS fd fs s) :=
  s.deliverSingle_ends _ _ _ _

theorem execCvtSW_ends (fd fs : FReg) (s : State) : s.Ends (.cvtSW fd fs) (execCvtSW fd fs s) :=
  s.deliverSingle_ends _ _ _ _

/-! ### Accesses and refusals -/

theorem State.afterRead_ends {x : Except Exc Nat} {f : Nat → Result} (h : ∀ v, s.Ends i (f v)) :
    s.Ends i (s.afterRead x f) := by
  cases x with
  | ok v => exact h v
  | error e => exact s.raise_ends i e

theorem State.loadGpr_ends (s : State) (i : Instr) (r : Reg) (a : Word) (n : Nat) (extend : Nat → Word) :
    s.Ends i (s.loadGpr r a n extend) :=
  State.afterRead_ends fun _ => s.putGpr_ends i _ _

theorem State.afterMemStore_ends {a : Word} {n v : Nat} {f : State → Result}
    (h : s.Ends i (f (s.writeValue a n v))) : s.Ends i (s.afterWrite (s.memStore a n v) f) := by
  obtain ⟨-, hr⟩ | ⟨-, hr⟩ := s.memStore_cases a n v
  · rw [hr]; exact h
  · rw [hr]; exact s.raise_ends i _

theorem State.afterMemWrite_ends {a : Word} {n v : Nat} {f : State → Result}
    (h : s.Ends i (f (s.writeValue a n v))) : s.Ends i (s.afterWrite (s.memWrite a n v) f) := by
  obtain ⟨-, hr⟩ | ⟨-, -, hr⟩ | ⟨-, -, hr⟩ := s.memWrite_cases a n v
  · rw [hr]; exact s.raise_ends i _
  · rw [hr]; exact h
  · rw [hr]; exact s.raise_ends i _

theorem State.writeValue_ends (s : State) (i : Instr) (a : Word) (n v : Nat) :
    s.Ends i (.next (s.writeValue a n v).advance) :=
  ((State.Within.refl s i).writeValue a n v).goesOn

theorem State.storeValue_ends (s : State) (i : Instr) (a : Word) (n v : Nat) : s.Ends i (s.storeValue a n v) :=
  State.afterMemWrite_ends (s.writeValue_ends i a n v)

theorem State.Ends.unlessInDelaySlot (h : s.Ends i k) : s.Ends i (s.unlessInDelaySlot k) := fun t ht =>
  h t (State.unlessInDelaySlot_next ht).2

theorem State.Ends.unlessLinkHazard (hazard : Bool) (h : s.Ends i k) : s.Ends i (unlessLinkHazard hazard k) :=
  fun t ht => h t (unlessLinkHazard_next ht).2

theorem State.Ends.whenEven (ok : Bool) (h : s.Ends i k) : s.Ends i (whenEven ok k) := fun t ht =>
  h t (whenEven_next ht).2

end

/-! ## Instructions with more than one end -/

theorem execDiv_ends (rs rt : Reg) (s : State) : s.Ends (.div rs rt) (execDiv rs rt s) := by
  unfold execDiv
  dsimp only
  split
  · exact s.putQuotient_ends rfl _ _ _
  · split
    · exact s.putQuotient_ends rfl 0 _ _
    · exact s.putQuotient_ends rfl _ _ _

theorem execDivu_ends (rs rt : Reg) (s : State) : s.Ends (.divu rs rt) (execDivu rs rt s) := by
  unfold execDivu
  dsimp only
  split
  · exact s.putQuotient_ends rfl _ _ _
  · exact s.putQuotient_ends rfl 0 _ _

theorem execSc_ends (rt : Reg) (off : Imm16) (rs : Reg) (s : State) :
    s.Ends (.sc rt off rs) (execSc rt off rs s) := by
  have hself := State.Within.refl s (.sc rt off rs)
  unfold execSc
  dsimp only
  split
  · exact s.raise_ends _ _
  · split
    · split
      · exact .refused _
      · exact State.afterMemWrite_ends (((hself.writeValue _ _ _).setGpr rt _).clearReservation rfl).goesOn
    · exact ((hself.setGpr rt _).clearReservation rfl).goesOn

theorem execMfc0_ends (rt rd : Reg) (s : State) : s.Ends (.mfc0 rt rd) (execMfc0 rt rd s) := by
  unfold execMfc0
  cases s.readCop0 rd with
  | some v => exact s.putGpr_ends _ _ _
  | none => exact .refused _

theorem execMtc0_ends (rt rd : Reg) (s : State) : s.Ends (.mtc0 rt rd) (execMtc0 rt rd s) := by
  unfold execMtc0
  cases ht : s.writeCop0 rd (s.getGpr rt) with
  | some t => exact (State.within_of_writeCop0 rt ht).goesOn
  | none => exact .refused _

theorem execSyscall_ends (s : State) : s.Ends .syscall (execSyscall s) := by
  unfold execSyscall
  cases s.params.syscallMode with
  | trap => exact s.raise_ends _ _
  | host =>
    dsimp only
    split
    · exact .fault _
    · exact (((State.Within.refl s .syscall).applyHostEffect s.hostService).drawn 1).goesOn

theorem execBrk_ends (code : Code20) (s : State) : s.Ends (.brk code) (execBrk code s) := by
  unfold execBrk
  split
  · exact .fault _
  · exact s.raise_ends _ _

/-! ## Every instruction -/

/-- The next state of an instruction is trap entry, or a well-placed state in which it wrote only what it may. The
arguments `rfl` read off the tables of Safety.lean that the instruction is a writer of the part. -/
theorem exec_ends (i : Instr) (s : State) : s.Ends i (exec i s) := by
  have hself := State.Within.refl s i
  cases i with
  -- Arithmetic, logic, constants, comparisons
  | add | addi | sub => exact s.putChecked_ends _ _ _
  | addu | addiu | subu | and | andi | nor | or | ori | xor | xori | clo | clz | sll | sllv | sra | srav | srl | srlv
  | lui | slt | sltu | slti | sltiu | mfhi | mflo | mfc1 => exact s.putGpr_ends _ _ _
  | mult | multu | madd | maddu | msub | msubu | mthi | mtlo => exact s.putHiLo_ends rfl _ _
  | mul => exact (((hself.setGpr _ _).setHiLo rfl _ _).drawn 1).goesOn
  | div rs rt => exact execDiv_ends rs rt s
  | divu rs rt => exact execDivu_ends rs rt s
  -- Branches, jumps, traps
  | bc1f | bc1t | beq | bgez | bgtz | blez | bltz | bne => exact .unlessInDelaySlot (hself.branchIf _ _)
  | bgezal | bltzal => exact .unlessInDelaySlot (.unlessLinkHazard _ ((hself.setGpr _ _).branchIf _ _))
  | bc1fl | bc1tl | beql | bgezl | bgtzl | blezl | bltzl | bnel =>
    exact .unlessInDelaySlot (hself.branchLikelyIf _ _)
  | bgezall | bltzall => exact .unlessInDelaySlot (.unlessLinkHazard _ ((hself.setGpr _ _).branchLikelyIf _ _))
  | j | jr => exact .unlessInDelaySlot (hself.transferTo _)
  | jal => exact .unlessInDelaySlot ((hself.setGpr _ _).transferTo _)
  | jalr => exact .unlessInDelaySlot (.unlessLinkHazard _ ((hself.setGpr _ _).transferTo _))
  | eret =>
    exact .unlessInDelaySlot (.next (.ended s.within_returnFromException s.returnFromException_wellPlaced))
  | teq | teqi | tne | tnei | tge | tgeu | tgei | tgeiu | tlt | tltu | tlti | tltiu => exact s.trapIf_ends _ _
  -- Loads and stores
  | lb | lbu | lh | lhu | lw => exact s.loadGpr_ends _ _ _ _ _
  | lwl | lwr => exact State.afterRead_ends fun _ => s.putGpr_ends _ _ _
  | lwc1 => exact State.afterRead_ends fun _ => s.setFpr_ends _ _ _
  | ldc1 => exact .whenEven _ (State.afterRead_ends fun _ => s.setDouble_ends _ _ _)
  | ll => exact State.afterRead_ends fun _ => ((hself.setGpr _ _).setReservation rfl _).goesOn
  | sb | sh | sw | swc1 => exact s.storeValue_ends _ _ _ _
  | sdc1 => exact .whenEven _ (s.storeValue_ends _ _ _ _)
  | swl | swr => exact State.afterMemStore_ends (s.writeValue_ends _ _ _ _)
  | sc rt off rs => exact execSc_ends rt off rs s
  -- Data movement
  | mfc0 rt rd => exact execMfc0_ends rt rd s
  | mtc0 rt rd => exact execMtc0_ends rt rd s
  | mtc1 | movS => exact s.setFpr_ends _ _ _
  | movn | movz | movf | movt => exact s.moveGprIf_ends _ _ _ _
  -- Floating point
  | absS | negS => exact s.putSingle_ends _ _ _
  | addS | subS | mulS | divS => exact s.arithSingle_ends _ _ _ _ _
  | sqrtS fd fs => exact execSqrtS_ends fd fs s
  | cvtSW fd fs => exact execCvtSW_ends fd fs s
  | ceilWS | cvtWS | floorWS | roundWS | truncWS => exact s.singleToWord_ends _ _ _ _
  | cEqS | cLeS | cLtS => exact s.putFcc_ends rfl _ _
  | movfS | movtS | movnS | movzS => exact s.moveSingleIf_ends _ _ _ _
  | absD | negD => exact .whenEven _ (s.putDouble_ends _ _ _)
  | addD | subD | mulD | divD | sqrtD | cvtDS | cvtDW => exact .whenEven _ (s.deliverDouble_ends _ _ _ _)
  | cvtSD => exact .whenEven _ (s.deliverSingle_ends _ _ _ _)
  | ceilWD | cvtWD | floorWD | roundWD | truncWD => exact .whenEven _ (s.deliverWord_ends _ _ _ _)
  | cEqD | cLeD | cLtD => exact .whenEven _ (s.putFcc_ends rfl _ _)
  | movD => exact .whenEven _ (s.setDouble_ends _ _ _)
  | movfD | movtD | movnD | movzD => exact .whenEven _ (s.moveDoubleIf_ends _ _ _ _)
  -- Exceptions
  | syscall => exact execSyscall_ends s
  | brk code => exact execBrk_ends code s
  | nop => exact s.advance_ends _

theorem exec_follows {i : Instr} {s t : State} (h : exec i s = .next t) : s.Follows i t := exec_ends i s t h

/-! ## The invariant (R22, R25, R30, R60) -/

section
variable {s t : State} {i : Instr}

theorem State.Inv.takeException (h : s.Inv) (e : Exc) : (s.takeException e).Inv := by
  obtain ⟨hmem, hzero, hcause, -⟩ := s.inv_iff.mp h
  exact (State.inv_iff _).mpr
    ⟨hmem, hzero, (absentCause_takeException s e).trans hcause, s.takeException_wellPlaced e⟩

theorem State.Inv.follows (h : s.Inv) (hfollows : s.Follows i t) : t.Inv := by
  cases hfollows with
  | raised e => exact h.takeException e
  | ended hwithin hplaced =>
    obtain ⟨hmem, hzero, hcause, -⟩ := s.inv_iff.mp h
    exact t.inv_iff.mpr
      ⟨hwithin.canonical hmem, hwithin.zeroEntry.trans hzero, hwithin.absentCause.trans hcause, hplaced⟩

theorem State.Inv.sampleInputs (h : s.Inv) : s.sampleInputs.Inv := by
  obtain ⟨hmem, hzero, hcause, hnext, hslot⟩ := h
  obtain ⟨hgpr, hpc, hnpc, hds, -, -, -, hlines, -, -, -, -, -, hparams, -, -⟩ := s.sampleInputs_frame
  refine ⟨s.sampleInputs_wf hmem, ?_, ?_, ?_, ?_⟩
  · rw [hgpr]; exact hzero
  · rw [hlines, absentCause_setHardwareIP]; exact hcause
  · rw [hds, hnpc, hpc]; exact hnext
  · rw [hparams, hds]; exact hslot

end

/-- Settles O9: the outside world keeps the invariant, and so does what the step does then. -/
theorem stepKeepsInvariant : Obligations.StepKeepsInvariant := by
  intro s t hinv h
  have raised : ∀ e, step s = s.sampleInputs.raise e → t.Inv := fun e hstep => by
    cases hstep.symm.trans h
    exact hinv.sampleInputs.takeException e
  obtain ⟨-, hstep⟩ | ⟨-, ⟨e, -, hstep⟩ | ⟨w, -, ⟨d, -, hstep⟩ | ⟨i, -, hstep⟩⟩⟩ := step_cases s
  · exact raised _ hstep
  · exact raised _ hstep
  · exact raised _ hstep
  · exact hinv.sampleInputs.follows (exec_follows (hstep.symm.trans h))

/-- Settles O10. -/
theorem resetInvariant : Obligations.ResetInvariant :=
  State.reset.inv_iff.mpr ⟨State.reset_mem_wf, by decide, by decide, ⟨fun _ => rfl, fun _ => rfl⟩⟩

/-- Settles O11: the values of R46's table. -/
theorem resetValues : Obligations.ResetValues :=
  ⟨rfl, rfl, rfl, State.getGpr_zero _, by decide, by decide, by decide, by decide, by decide, by decide, rfl⟩

/-! ## Who writes what -/

section
variable {s t : State} {i : Instr}

theorem State.Follows.zeroEntry (h : s.Follows i t) : t.gpr[0] = s.gpr[0] := by
  cases h with
  | raised e => rfl
  | ended hwithin _ => exact hwithin.zeroEntry

theorem State.Follows.fcc (h : s.Follows i t) (hi : isCompare i = false) : s.sameFccs t := by
  cases h with
  | raised e => exact fun _ => rfl
  | ended hwithin _ => exact hwithin.fcc hi

theorem State.Follows.acc (h : s.Follows i t) (hi : writesAcc i = false) : s.sameAcc t := by
  cases h with
  | raised e => exact ⟨rfl, rfl⟩
  | ended hwithin _ => exact hwithin.acc hi

theorem State.Follows.reservation (h : s.Follows i t) (hi : writesReservation i = false) : s.sameReservation t := by
  cases h with
  | raised e => exact ⟨rfl, rfl⟩
  | ended hwithin _ => exact hwithin.reservation hi

end

/-- Settles O14: a read of register 0 ignores its entry, which no instruction changes. -/
theorem registerZeroNeverWritten : Obligations.RegisterZeroNeverWritten := fun _ s t h =>
  ⟨s.getGpr_zero, t.getGpr_zero, (exec_follows h).zeroEntry⟩

/-- Settles O15, from the two ways an instruction ends. -/
theorem cop0Writers : Obligations.Cop0Writers := by
  intro i s t h
  cases exec_follows h with
  | raised e => exact .inl ⟨e, rfl⟩
  | ended hwithin _ => exact .inr ⟨hwithin.status, hwithin.cause, hwithin.epc, hwithin.badVAddr⟩

/-- Settles O17: trap entry writes none of the three, and of the instructions only the named ones do. -/
theorem flagAccReservationWriters : Obligations.FlagAccReservationWriters := fun _ _ _ h =>
  ⟨(exec_follows h).fcc, (exec_follows h).acc, (exec_follows h).reservation⟩

end Sys2Proof.Machine

/-!
PROOFS. The statements of the memory chapter: the ends of a fetch (R64), which instructions write memory (R61, R71,
R330), and the exceptions of an access that is misaligned or that `MEM_MAP` does not allow (R65 to R67, R73, R78, R356).
The access of an instruction is said once, as the equation of `exec` with the read or write it starts with; its
exceptions follow from the outcomes of that read or write.
-/

namespace Sys2Proof.Machine

/-! ## The accesses that raise (R64, R66, R67) -/

section
variable {s : State} {a : Word} {n : Nat}

theorem State.memRead_misaligned (h : a.toNat % n ≠ 0) : s.memRead a n = .error (.addressErrorLoad a) := by
  obtain ⟨-, hr⟩ | ⟨ha, -⟩ | ⟨ha, -⟩ := s.memRead_cases a n
  · exact hr
  · exact absurd ha h
  · exact absurd ha h

theorem State.memRead_denied (halign : a.toNat % n = 0) (hdeny : ¬s.allows .read a n) :
    s.memRead a n = .error .busErrorData := by
  obtain ⟨ha, -⟩ | ⟨-, hm, -⟩ | ⟨-, -, hr⟩ := s.memRead_cases a n
  · exact absurd halign ha
  · exact absurd hm hdeny
  · exact hr

theorem State.memStore_denied (v : Nat) (hdeny : ¬s.allows .write a n) : s.memStore a n v = .error .busErrorData := by
  obtain ⟨hm, -⟩ | ⟨-, hr⟩ := s.memStore_cases a n v
  · exact absurd hm hdeny
  · exact hr

theorem State.memWrite_misaligned (v : Nat) (h : a.toNat % n ≠ 0) :
    s.memWrite a n v = .error (.addressErrorStore a) := by
  obtain ⟨-, hr⟩ | ⟨ha, -⟩ | ⟨ha, -⟩ := s.memWrite_cases a n v
  · exact hr
  · exact absurd ha h
  · exact absurd ha h

theorem State.memWrite_denied (v : Nat) (halign : a.toNat % n = 0) (hdeny : ¬s.allows .write a n) :
    s.memWrite a n v = .error .busErrorData := by
  obtain ⟨ha, -⟩ | ⟨-, hm, -⟩ | ⟨-, -, hr⟩ := s.memWrite_cases a n v
  · exact absurd halign ha
  · exact absurd hm hdeny
  · exact hr

theorem State.fetch_misaligned (h : a.toNat % 4 ≠ 0) : s.fetch a = .error (.addressErrorLoad a) := if_pos h

theorem State.fetch_denied (halign : a.toNat % 4 = 0) (hdeny : ¬s.allows .execute a 4) :
    s.fetch a = .error .busErrorFetch := by
  unfold State.allows at hdeny
  simp [State.fetch, halign, hdeny]

end

/-! ## The fetch of a step (R10, R64) -/

section
variable {s : State}

theorem State.sampleInputs_allows (s : State) (k : Config.Access) (a : Word) (n : Nat) :
    s.sampleInputs.allows k a n ↔ s.allows k a n := by
  obtain ⟨hparams, -, -⟩ := s.sampleInputs_world
  rw [State.allows, State.allows, hparams]

theorem step_eq_fetchAndRun (hirq : s.sampleInputs.interruptPending = false) :
    step s = s.sampleInputs.fetchAndRun := by
  simp [step, State.interruptOrRun, hirq]

theorem step_of_fetch_ok {w : Word} (hirq : s.sampleInputs.interruptPending = false)
    (hfetch : s.sampleInputs.fetch s.pc = .ok w) : step s = s.sampleInputs.runWord w := by
  rw [step_eq_fetchAndRun hirq, State.fetchAndRun, s.sampleInputs_pc, hfetch]

theorem step_of_fetch_error {e : Exc} (hirq : s.sampleInputs.interruptPending = false)
    (hfetch : s.sampleInputs.fetch s.pc = .error e) :
    ∃ t, step s = .next t ∧ s.sampleInputs.trapEntered t e.code e.recorded := by
  refine ⟨_, ?_, s.sampleInputs.takeException_trapEntered e⟩
  rw [step_eq_fetchAndRun hirq, State.fetchAndRun, s.sampleInputs_pc, hfetch]
  rfl

end

/-- Settles O8: the three outcomes of the fetch that the step makes. -/
theorem fetchExceptions : Obligations.FetchExceptions := by
  intro s hirq
  have hmap := s.sampleInputs_allows .execute s.pc 4
  refine ⟨fun hmis => ?_, fun halign hdeny => ?_, fun halign hallow => ?_⟩
  · exact step_of_fetch_error hirq (State.fetch_misaligned hmis)
  · exact step_of_fetch_error hirq (State.fetch_denied halign (mt hmap.mp hdeny))
  · exact step_of_fetch_ok hirq (State.fetch_eq_assembled halign (hmap.mpr hallow))

/-! ## What leaves memory as it is (R61, R71) -/

/-- A next state, if the result is one, has every byte of memory as before. -/
def State.LeavesMemory (s : State) (r : Result) : Prop := ∀ t, r = .next t → s.sameMemory t

section
variable {s t : State} {k r : Result}

theorem State.LeavesMemory.next (h : s.sameMemory t) : s.LeavesMemory (.next t) := fun _ ht => by cases ht; exact h

theorem State.LeavesMemory.fault (f : Fault) : s.LeavesMemory (.fault f) := fun _ ht => by cases ht

theorem State.LeavesMemory.refused (f : Refusal) : s.LeavesMemory (.refused f) := fun _ ht => by cases ht

theorem State.LeavesMemory.ite {c : Prop} [Decidable c] (hk : s.LeavesMemory k) (hr : s.LeavesMemory r) :
    s.LeavesMemory (if c then k else r) := by
  split
  · exact hk
  · exact hr

theorem State.LeavesMemory.unlessInDelaySlot (h : s.LeavesMemory k) : s.LeavesMemory (s.unlessInDelaySlot k) :=
  .ite (.refused _) h

theorem State.LeavesMemory.unlessLinkHazard (hazard : Bool) (h : s.LeavesMemory k) :
    s.LeavesMemory (unlessLinkHazard hazard k) :=
  .ite (.refused _) h

theorem State.LeavesMemory.whenEven (ok : Bool) (h : s.LeavesMemory k) : s.LeavesMemory (whenEven ok k) :=
  .ite h (.refused _)

theorem State.raise_leavesMemory (s : State) (e : Exc) : s.LeavesMemory (s.raise e) := .next fun _ => rfl

theorem State.afterRead_leavesMemory {x : Except Exc Nat} {f : Nat → Result} (h : ∀ v, s.LeavesMemory (f v)) :
    s.LeavesMemory (s.afterRead x f) := by
  cases x with
  | ok v => exact h v
  | error e => exact s.raise_leavesMemory e

end

theorem State.putSingle_leavesMemory (s : State) (fd : FReg) (r : FpResult) : s.LeavesMemory (s.putSingle fd r) := by
  cases r <;> exact .next fun _ => rfl

theorem State.putDouble_leavesMemory (s : State) (fd : FReg) (r : FpResult) : s.LeavesMemory (s.putDouble fd r) := by
  cases r <;> exact .next fun _ => rfl

theorem State.putWord_leavesMemory (s : State) (fd : FReg) (r : Option Word) : s.LeavesMemory (s.putWord fd r) := by
  cases r <;> exact .next fun _ => rfl

theorem State.deliverSingle_leavesMemory (s : State) (fd : FReg) (r : FpResult) (f : Config.NumericsRecord → Word) :
    s.LeavesMemory (s.deliverSingle fd r f) := by
  obtain ⟨-, h⟩ | ⟨-, h⟩ := s.deliverSingle_cases fd r f
  · rw [h]; exact s.putSingle_leavesMemory _ _
  · rw [h]; exact .next fun _ => rfl

theorem State.deliverDouble_leavesMemory (s : State) (fd : FReg) (r : FpResult) (f : Config.NumericsRecord → DWord) :
    s.LeavesMemory (s.deliverDouble fd r f) := by
  obtain ⟨-, h⟩ | ⟨-, h⟩ := s.deliverDouble_cases fd r f
  · rw [h]; exact s.putDouble_leavesMemory _ _
  · rw [h]; exact .next fun _ => rfl

theorem State.deliverWord_leavesMemory (s : State) (fd : FReg) (r : Option Word) (f : Config.NumericsRecord → Word) :
    s.LeavesMemory (s.deliverWord fd r f) := by
  obtain ⟨-, h⟩ | ⟨-, h⟩ := s.deliverWord_cases fd r f
  · rw [h]; exact s.putWord_leavesMemory _ _
  · rw [h]; exact .next fun _ => rfl

theorem State.arithSingle_leavesMemory (s : State) (op : Config.FpArith) (fd fs ft : FReg) :
    s.LeavesMemory (s.arithSingle op fd fs ft) :=
  s.deliverSingle_leavesMemory _ _ _

theorem execSqrtS_leavesMemory (fd fs : FReg) (s : State) : s.LeavesMemory (execSqrtS fd fs s) :=
  s.deliverSingle_leavesMemory _ _ _

theorem execCvtSW_leavesMemory (fd fs : FReg) (s : State) : s.LeavesMemory (execCvtSW fd fs s) :=
  s.deliverSingle_leavesMemory _ _ _

theorem State.singleToWord_leavesMemory (s : State) (c : Config.WordConversion) (fd fs : FReg) :
    s.LeavesMemory (s.singleToWord c fd fs) :=
  s.deliverWord_leavesMemory _ _ _

theorem execMfc0_leavesMemory (rt rd : Reg) (s : State) : s.LeavesMemory (execMfc0 rt rd s) := by
  unfold execMfc0
  cases s.readCop0 rd with
  | some v => exact .next fun _ => rfl
  | none => exact .refused _

theorem State.sameMemory_of_writeCop0 {s t : State} {rd : Reg} {v : Word} (h : s.writeCop0 rd v = some t) :
    s.sameMemory t := by
  unfold State.writeCop0 at h
  split at h <;> cases h <;> exact fun _ => rfl

theorem execMtc0_leavesMemory (rt rd : Reg) (s : State) : s.LeavesMemory (execMtc0 rt rd s) := by
  unfold execMtc0
  cases ht : s.writeCop0 rd (s.getGpr rt) with
  | some t =>
    have hsame : s.sameMemory t := State.sameMemory_of_writeCop0 ht
    exact .next hsame
  | none => exact .refused _

theorem execSyscall_leavesMemory {s : State} (h : s.params.syscallMode = .trap) :
    s.LeavesMemory (execSyscall s) := by
  unfold execSyscall
  rw [h]
  exact s.raise_leavesMemory _

/-- An instruction that may not store leaves memory as it is. -/
theorem exec_leavesMemory {i : Instr} (s : State) (hi : mayStore i = false) : s.LeavesMemory (exec i s) := by
  cases i with
  -- Arithmetic, logic, constants, comparisons
  | add | addi | sub => exact .ite (s.raise_leavesMemory _) (.next fun _ => rfl)
  | addu | addiu | subu | and | andi | nor | or | ori | xor | xori | clo | clz | sll | sllv | sra | srav | srl | srlv
  | lui | slt | sltu | slti | sltiu | mfhi | mflo | mfc1 | mult | multu | madd | maddu | msub | msubu | mthi | mtlo
  | mul => exact .next fun _ => rfl
  | div => exact .ite (.next fun _ => rfl) (.ite (.next fun _ => rfl) (.next fun _ => rfl))
  | divu => exact .ite (.next fun _ => rfl) (.next fun _ => rfl)
  -- Branches, jumps, traps
  | bc1f | bc1t | beq | bgez | bgtz | blez | bltz | bne =>
    exact .unlessInDelaySlot (.next (State.branchIf_readByte _ _ _))
  | bgezal | bltzal => exact .unlessInDelaySlot (.unlessLinkHazard _ (.next (State.branchIf_readByte _ _ _)))
  | bc1fl | bc1tl | beql | bgezl | bgtzl | blezl | bltzl | bnel =>
    exact .unlessInDelaySlot (.next (State.branchLikelyIf_readByte _ _ _))
  | bgezall | bltzall =>
    exact .unlessInDelaySlot (.unlessLinkHazard _ (.next (State.branchLikelyIf_readByte _ _ _)))
  | j | jr | jal | eret => exact .unlessInDelaySlot (.next fun _ => rfl)
  | jalr => exact .unlessInDelaySlot (.unlessLinkHazard _ (.next fun _ => rfl))
  | teq | teqi | tne | tnei | tge | tgeu | tgei | tgeiu | tlt | tltu | tlti | tltiu =>
    exact .ite (s.raise_leavesMemory _) (.next fun _ => rfl)
  -- Loads and stores
  | lb | lbu | lh | lhu | lw | lwl | lwr | lwc1 | ll => exact State.afterRead_leavesMemory fun _ => .next fun _ => rfl
  | ldc1 => exact .whenEven _ (State.afterRead_leavesMemory fun _ => .next fun _ => rfl)
  | sb | sh | sw | swc1 | sdc1 | swl | swr | sc => cases hi
  -- Data movement
  | mfc0 rt rd => exact execMfc0_leavesMemory rt rd s
  | mtc0 rt rd => exact execMtc0_leavesMemory rt rd s
  | mtc1 | movS => exact .next fun _ => rfl
  | movn | movz | movf | movt => exact .ite (.next fun _ => rfl) (.next fun _ => rfl)
  -- Floating point
  | absS | negS => exact s.putSingle_leavesMemory _ _
  | addS | subS | mulS | divS => exact s.arithSingle_leavesMemory _ _ _ _
  | sqrtS fd fs => exact execSqrtS_leavesMemory fd fs s
  | cvtSW fd fs => exact execCvtSW_leavesMemory fd fs s
  | ceilWS | cvtWS | floorWS | roundWS | truncWS => exact s.singleToWord_leavesMemory _ _ _
  | cEqS | cLeS | cLtS => exact .next fun _ => rfl
  | movfS | movtS | movnS | movzS => exact .ite (.next fun _ => rfl) (.next fun _ => rfl)
  | absD | negD => exact .whenEven _ (s.putDouble_leavesMemory _ _)
  | addD | subD | mulD | divD | sqrtD | cvtDS | cvtDW => exact .whenEven _ (s.deliverDouble_leavesMemory _ _ _)
  | cvtSD => exact .whenEven _ (s.deliverSingle_leavesMemory _ _ _)
  | ceilWD | cvtWD | floorWD | roundWD | truncWD => exact .whenEven _ (s.deliverWord_leavesMemory _ _ _)
  | cEqD | cLeD | cLtD | movD => exact .whenEven _ (.next fun _ => rfl)
  | movfD | movtD | movnD | movzD => exact .whenEven _ (.ite (.next fun _ => rfl) (.next fun _ => rfl))
  -- Exceptions
  | syscall => cases hi
  | brk => exact .ite (.fault _) (s.raise_leavesMemory _)
  | nop => exact .next fun _ => rfl

/-- Settles O16: an instruction that may not store leaves memory, and so does the trap entry of `syscall`. -/
theorem memoryWriters : Obligations.MemoryWriters := by
  rintro i s t h (hi | ⟨rfl, hmode⟩)
  · exact exec_leavesMemory s hi t h
  · exact execSyscall_leavesMemory hmode t h

/-! ## The addresses of an access (R116, R330, R339, R351) -/

theorem State.effectiveAddress_eq_operandAddress (s : State) (rs : Reg) (off : Imm16) :
    s.effectiveAddress rs off = s.operandAddress rs off := by
  rw [State.operandAddress, BitVec.ofInt_add, BitVec.ofInt_natCast, BitVec.ofNat_toNat, BitVec.setWidth_eq]
  rfl

/-- To clear the two low bits is to round down to a multiple of 4. -/
theorem alignedWord_eq_wordBase (a : Word) : alignedWord a = wordBase a := by
  have hmask : alignedWord a = a >>> 2 <<< 2 := by
    ext k hk
    simp only [alignedWord, BitVec.getElem_and]
    interval_cases k <;> simp
  have ha := a.isLt
  apply BitVec.eq_of_toNat_eq
  rw [hmask, wordBase, BitVec.toNat_shiftLeft, BitVec.toNat_ushiftRight, BitVec.toNat_ofNat, Nat.shiftRight_eq_div_pow,
    Nat.shiftLeft_eq]

/-! ## Exceptions of an access, from the read or write an instruction starts with -/

section
variable {s : State} {i : Instr} {a : Word} {n v : Nat}

theorem State.traps_of_raise {e : Exc} (h : exec i s = s.raise e) : s.traps i e.code e.recorded :=
  ⟨_, h, s.takeException_trapEntered e⟩

theorem State.misalignedLoad_of_memRead {k : Nat → Result} (h : exec i s = s.afterRead (s.memRead a n) k) :
    s.misalignedLoad i a n := fun hmis =>
  State.traps_of_raise (e := .addressErrorLoad a) (h.trans (by rw [State.memRead_misaligned hmis]; rfl))

theorem State.busError_of_memRead {k : Nat → Result} (h : exec i s = s.afterRead (s.memRead a n) k) :
    s.busError i .read a n := fun halign hdeny =>
  State.traps_of_raise (e := .busErrorData) (h.trans (by rw [State.memRead_denied halign hdeny]; rfl))

theorem State.misalignedStore_of_memWrite {k : State → Result} (h : exec i s = s.afterWrite (s.memWrite a n v) k) :
    s.misalignedStore i a n := fun hmis =>
  State.traps_of_raise (e := .addressErrorStore a) (h.trans (by rw [State.memWrite_misaligned v hmis]; rfl))

theorem State.busError_of_memWrite {k : State → Result} (h : exec i s = s.afterWrite (s.memWrite a n v) k) :
    s.busError i .write a n := fun halign hdeny =>
  State.traps_of_raise (e := .busErrorData) (h.trans (by rw [State.memWrite_denied v halign hdeny]; rfl))

theorem State.traps_of_memStore_denied {k : State → Result} (h : exec i s = s.afterWrite (s.memStore a n v) k)
    (hdeny : ¬s.allows .write a n) : s.traps i 7 none :=
  State.traps_of_raise (e := .busErrorData) (h.trans (by rw [State.memStore_denied v hdeny]; rfl))

end

/-! ## The access an instruction starts with, where it is not by definition -/

section
variable {s : State} {off : Imm16} {rt rs : Reg} {ft : FReg}

theorem whenEven_of_even (k : Result) (h : ft.getLsbD 0 = false) : whenEven (evenFpr ft) k = k := by
  rw [whenEven, evenFpr, h]
  rfl

theorem exec_ldc1_of_even (h : ft.getLsbD 0 = false) :
    exec (.ldc1 ft off rs) s = s.afterRead (s.memRead (s.effectiveAddress rs off) 8) fun v =>
      .next (s.setDouble ft (BitVec.ofNat 64 v)).advance :=
  whenEven_of_even _ h

theorem exec_sdc1_of_even (h : ft.getLsbD 0 = false) :
    exec (.sdc1 ft off rs) s = s.storeValue (s.effectiveAddress rs off) 8 (s.getDouble ft).toNat :=
  whenEven_of_even _ h

theorem exec_sc_of_misaligned (h : (s.effectiveAddress rs off).toNat % 4 ≠ 0) :
    exec (.sc rt off rs) s = s.raise (.addressErrorStore (s.effectiveAddress rs off)) :=
  if_pos h

/-- An aligned `sc` that may succeed is a store of the word (R73, R356; log 24). -/
theorem exec_sc_of_reserved (halign : (s.effectiveAddress rs off).toNat % 4 = 0)
    (h : s.params.scAlwaysSucceeds = true ∨ (s.llBit = true ∧ s.effectiveAddress rs off = s.llAddr)) :
    exec (.sc rt off rs) s =
      s.afterWrite (s.memWrite (s.effectiveAddress rs off) 4 (s.getGpr rt).toNat) fun t =>
        .next ((t.setGpr rt 1#32).clearReservation).advance := by
  have hreserved : (s.params.scAlwaysSucceeds || s.llBit) = true := by
    obtain h | ⟨h, -⟩ := h <;> simp [h]
  have hsame : (!s.params.scAlwaysSucceeds && s.effectiveAddress rs off != s.llAddr) = false := by
    obtain h | ⟨-, h⟩ := h <;> simp [h]
  show execSc rt off rs s = _
  simp [execSc, halign, hreserved, hsame]

/-- `swl` stores the high bytes of the register from the start of the aligned word up to the address, or in the
big-endian order from the address to the end of the word (R351; log 27). -/
theorem exec_swl :
    exec (.swl rt off rs) s =
      s.afterWrite
        (s.memStore (if s.params.bigEndian then s.effectiveAddress rs off else wordBase (s.effectiveAddress rs off))
          (4 - s.leftKept (s.effectiveAddress rs off))
          (s.getGpr rt >>> (8 * s.leftKept (s.effectiveAddress rs off))).toNat) fun t => .next t.advance := by
  rw [← alignedWord_eq_wordBase]
  rfl

/-- `swr` stores the low bytes of the register from the address to the end of the aligned word, or in the big-endian
order from the start of the word up to the address (R352; log 27). -/
theorem exec_swr :
    exec (.swr rt off rs) s =
      s.afterWrite
        (s.memStore (if s.params.bigEndian then wordBase (s.effectiveAddress rs off) else s.effectiveAddress rs off)
          (4 - s.rightKept (s.effectiveAddress rs off)) (s.getGpr rt).toNat) fun t => .next t.advance := by
  rw [← alignedWord_eq_wordBase]
  rfl

end

/-- Settles O45: each instruction starts with the access named, whose misaligned outcome is the address error. The
arguments `rfl` read the access off the meaning of the instruction. -/
theorem misalignedAccess : Obligations.MisalignedAccess := by
  intro s rt rs ft off
  dsimp only
  rw [← s.effectiveAddress_eq_operandAddress]
  refine ⟨?lh, ?lhu, ?lw, ?ll, ?lwc1, ?ldc1, ?sh, ?sw, ?sc, ?swc1, ?sdc1⟩
  case lh | lhu | lw | ll | lwc1 => exact State.misalignedLoad_of_memRead rfl
  case ldc1 => exact fun heven => State.misalignedLoad_of_memRead (exec_ldc1_of_even heven)
  case sh | sw | swc1 => exact State.misalignedStore_of_memWrite rfl
  case sc => exact fun hmis => State.traps_of_raise (exec_sc_of_misaligned hmis)
  case sdc1 => exact fun heven => State.misalignedStore_of_memWrite (exec_sdc1_of_even heven)

/-- Settles O46: each instruction starts with the access named, whose outcome is the bus error where the map does not
allow it. -/
theorem busErrors : Obligations.BusErrors := by
  intro s rt rs ft off
  dsimp only
  rw [← s.effectiveAddress_eq_operandAddress]
  refine ⟨?lb, ?lbu, ?lh, ?lhu, ?lw, ?ll, ?lwc1, ?ldc1, ?lwl, ?lwr, ?sb, ?sh, ?sw, ?swc1, ?sdc1, ?swl, ?swr, ?sc⟩
  case lb | lbu | lh | lhu | lw | ll | lwc1 => exact State.busError_of_memRead rfl
  case ldc1 => exact fun heven => State.busError_of_memRead (exec_ldc1_of_even heven)
  case lwl | lwr => rw [← alignedWord_eq_wordBase]; exact State.busError_of_memRead rfl
  case sb | sh | sw | swc1 => exact State.busError_of_memWrite rfl
  case sdc1 => exact fun heven => State.busError_of_memWrite (exec_sdc1_of_even heven)
  case swl => exact State.traps_of_memStore_denied exec_swl
  case swr => exact State.traps_of_memStore_denied exec_swr
  case sc =>
    exact fun hsucceeds halign => State.busError_of_memWrite (exec_sc_of_reserved halign hsucceeds) halign

end Sys2Proof.Machine

/-!
PROOFS. The statements of the encoding chapter: the decoder against the words the encoder writes (R101 to R105), against
the masks and patterns of the opcode table (R128, R129), and a word that no row matches (R130). A masked word equals a
pattern exactly when its six fields do, so a row says which fields the decoder finds fixed; from there each part of the
decoder is evaluated once. A `simp -iota` rewrites the fields in a decoder and leaves its `match` to the `rfl` after it,
which evaluates it on literals.
-/

namespace Sys2Proof

/-! ## A word is its fields (R101) -/

theorem eq_rType_fields (w : Word) :
    w = rType (opField w) (rsField w) (rtField w) (rdField w) (shamtField w) (functField w) := by
  unfold rType fieldAt opField rsField rtField rdField shamtField functField
  ext i hi
  interval_cases i <;> simp

section
variable {w v m b : Word}

theorem eq_iff_fields : w = v ↔ opField w = opField v ∧ rsField w = rsField v ∧ rtField w = rtField v ∧
    rdField w = rdField v ∧ shamtField w = shamtField v ∧ functField w = functField v := by
  refine ⟨fun h => by simp [h], fun ⟨hop, hrs, hrt, hrd, hsh, hfunct⟩ => ?_⟩
  rw [eq_rType_fields w, hop, hrs, hrt, hrd, hsh, hfunct, ← eq_rType_fields]

theorem eq_zero_iff_fields : w = 0#32 ↔ opField w = 0#6 ∧ rsField w = 0#5 ∧ rtField w = 0#5 ∧ rdField w = 0#5 ∧
    shamtField w = 0#5 ∧ functField w = 0#6 := eq_iff_fields

/-- A masked word is a pattern where each of its fields is, masked by the mask's bits at the field (R128). -/
theorem and_eq_iff_fields : w &&& m = b ↔
    opField w &&& m.extractLsb' 26 6 = b.extractLsb' 26 6 ∧ rsField w &&& m.extractLsb' 21 5 = b.extractLsb' 21 5 ∧
      rtField w &&& m.extractLsb' 16 5 = b.extractLsb' 16 5 ∧ rdField w &&& m.extractLsb' 11 5 = b.extractLsb' 11 5 ∧
      shamtField w &&& m.extractLsb' 6 5 = b.extractLsb' 6 5 ∧
      functField w &&& m.extractLsb' 0 6 = b.extractLsb' 0 6 := by
  simp only [eq_iff_fields, opField, rsField, rtField, rdField, shamtField, functField, BitVec.extractLsb'_and]

theorem codeField_eq_zero_iff :
    codeField w = 0#20 ↔ rsField w = 0#5 ∧ rtField w = 0#5 ∧ rdField w = 0#5 ∧ shamtField w = 0#5 := by
  simp only [codeField, rsField, rtField, rdField, shamtField, ← BitVec.toNat_inj, BitVec.extractLsb'_toNat,
    BitVec.toNat_ofNat, Nat.shiftRight_eq_div_pow]
  omega

theorem senseField_eq_three (h0 : (senseField w).toNat ≠ 0) (h1 : (senseField w).toNat ≠ 1)
    (h2 : (senseField w).toNat ≠ 2) : senseField w = 3#2 := by bv_omega

end

@[simp] theorem extractLsb'_rtField (w : Word) : (rtField w).extractLsb' 0 2 = senseField w := by
  unfold rtField senseField
  ext i hi
  simp; omega

@[simp] theorem extractLsb'_shamtField (w : Word) : (shamtField w).extractLsb' 0 2 = compareZeroField w := by
  unfold shamtField compareZeroField
  ext i hi
  simp; omega

/-! The masks of the table cover a field wholly, not at all, or in its two low bits. -/

@[simp] theorem and_six_ones (x : BitVec 6) : x &&& 63#6 = x := BitVec.and_allOnes

@[simp] theorem and_five_ones (x : BitVec 5) : x &&& 31#5 = x := BitVec.and_allOnes

@[simp] theorem and_three_eq_iff (x c : BitVec 5) :
    x &&& 3#5 = c ↔ x.extractLsb' 0 2 = c.extractLsb' 0 2 ∧ c.extractLsb' 2 3 = 0#3 := by
  decide +revert

/-! ## The part of the decoder that an `op` selects (R120, R125) -/

section
variable {p : Config.Params} {w : Word}

theorem decode_special (hop : opField w = 0x00#6) : decode p w = decodeSpecial p w := by
  rw [decode, hop]; rfl

theorem decode_regimm (hop : opField w = 0x01#6) : decode p w = decodeRegimm p w := by
  rw [decode, hop]; rfl

theorem decode_special2 (hop : opField w = 0x1c#6) : decode p w = decodeSpecial2 p w := by
  rw [decode, hop]; rfl

theorem decode_cop0 (hop : opField w = 0x10#6) : decode p w = decodeCop0 w := by
  rw [decode, hop]; rfl

theorem decode_cop1 (hop : opField w = 0x11#6) : decode p w = decodeCop1 p w := by
  rw [decode, hop]; rfl

theorem decode_single (hop : opField w = 0x11#6) (hfmt : rsField w = 0x10#5) : decode p w = decodeSingle w := by
  rw [decode_cop1 hop, decodeCop1, hfmt]; rfl

theorem decode_double (hop : opField w = 0x11#6) (hfmt : rsField w = 0x11#5) : decode p w = decodeDouble w := by
  rw [decode_cop1 hop, decodeCop1, hfmt]; rfl

end

/-! ## The word of `sll` that is `nop` (R128) -/

section
variable (p : Config.Params) (rd rt : Reg) (sh : Shamt)

theorem sll_wellFormed_iff : (Instr.sll rd rt sh).wellFormed p = true ↔ ¬(rd = 0#5 ∧ rt = 0#5 ∧ sh = 0#5) := by
  simp only [Instr.wellFormed, Bool.not_eq_true', Bool.and_eq_false_iff, beq_eq_false_iff_ne, ne_eq]
  tauto

theorem sll_wellFormed_or : (Instr.sll rd rt sh).wellFormed p = true ∨ Instr.sll rd rt sh = .sll 0#5 0#5 0#5 := by
  rw [sll_wellFormed_iff, Instr.sll.injEq]
  exact (Classical.em _).symm

theorem encode_sll_eq_zero_iff : encode (.sll rd rt sh) = 0#32 ↔ rd = 0#5 ∧ rt = 0#5 ∧ sh = 0#5 := by
  simp [eq_zero_iff_fields, encode]
  tauto

end

/-! ## Decoding what the encoder writes (R102 to R105) -/

section
variable (op funct : BitVec 6) (rs rt rd shamt : BitVec 5) (imm : BitVec 16)

theorem fields_rType : opField (rType op rs rt rd shamt funct) = op ∧ rsField (rType op rs rt rd shamt funct) = rs ∧
    rtField (rType op rs rt rd shamt funct) = rt ∧ rdField (rType op rs rt rd shamt funct) = rd ∧
    shamtField (rType op rs rt rd shamt funct) = shamt ∧ functField (rType op rs rt rd shamt funct) = funct := by
  simp

theorem fields_iType : opField (iType op rs rt imm) = op ∧ rsField (iType op rs rt imm) = rs ∧
    rtField (iType op rs rt imm) = rt ∧ immField (iType op rs rt imm) = imm := by
  simp

end

/-- Settles O2: the fields of the word select the part of the decoder and the row in it. -/
theorem decodeEncodeAgree : Obligations.DecodeEncodeAgree := by
  intro p i hwf
  cases i
  all_goals simp only [encode]
  case nop => rfl
  case sll rd rt sh =>
    have hne := mt (encode_sll_eq_zero_iff rd rt sh).mp ((sll_wellFormed_iff p rd rt sh).mp hwf)
    simp -iota only [decode_special, decodeSpecial, fields_rType]
    exact if_neg hne
  case add | addu | and | div | divu | mult | multu | nor | or | sllv | sra | srav | srl | srlv | sub | subu | xor | slt
      | sltu | jalr | jr | teq | tne | tge | tgeu | tlt | tltu | mfhi | mflo | mthi | mtlo | movn | movz | syscall =>
    simp -iota only [decode_special, decodeSpecial, fields_rType]
    rfl
  case movf | movt =>
    simp -iota only [decode_special, decodeSpecial, fields_rType, senseField_rType_ccAndSense, ccField_rType_ccAndSense]
    rfl
  case brk =>
    simp -iota only [decode_special, decodeSpecial, opField_codeType, functField_codeType, codeField_codeType]
    rfl
  case bgez | bgezal | bltzal | bltz | teqi | tnei | tgei | tgeiu | tlti | tltiu =>
    simp -iota only [decode_regimm, decodeRegimm, fields_iType]
    rfl
  case bgezl | bgezall | bltzall | bltzl =>
    simp -iota only [decode_regimm, decodeRegimm, fields_iType]
    exact if_pos hwf
  case clo | clz | mul | madd | maddu | msub | msubu =>
    simp -iota only [decode_special2, decodeSpecial2, fields_rType]
    rfl
  case mfc0 | mtc0 | eret =>
    simp -iota only [decode_cop0, decodeCop0, fields_rType]
    rfl
  case mfc1 | mtc1 | cvtSW | cvtDW =>
    simp -iota only [decode_cop1, decodeCop1, fields_rType]
    rfl
  case bc1f | bc1t =>
    simp -iota only [decode_cop1, decodeCop1, fields_iType, senseField_iType_ccAndSense, ccField_iType_ccAndSense]
    rfl
  case bc1fl | bc1tl =>
    simp -iota only [decode_cop1, decodeCop1, fields_iType, senseField_iType_ccAndSense, ccField_iType_ccAndSense]
    exact if_pos hwf
  case absS | addS | ceilWS | cvtDS | cvtWS | divS | floorWS | movS | movnS | movzS | mulS | negS | roundWS | sqrtS | subS
      | truncWS =>
    simp -iota only [decode_single, decodeSingle, fields_rType]
    rfl
  case movfS | movtS =>
    simp -iota only [decode_single, decodeSingle, fields_rType, senseField_rType_ccAndSense, ccField_rType_ccAndSense]
    rfl
  case cEqS | cLeS | cLtS =>
    simp -iota only [decode_single, decodeSingle, fields_rType, compareZeroField_rType_ccOfCompare,
      compareCcField_rType_ccOfCompare]
    rfl
  case absD | addD | ceilWD | cvtSD | cvtWD | divD | floorWD | movD | movnD | movzD | mulD | negD | roundWD | sqrtD | subD
      | truncWD =>
    simp -iota only [decode_double, decodeDouble, fields_rType]
    rfl
  case movfD | movtD =>
    simp -iota only [decode_double, decodeDouble, fields_rType, senseField_rType_ccAndSense, ccField_rType_ccAndSense]
    rfl
  case cEqD | cLeD | cLtD =>
    simp -iota only [decode_double, decodeDouble, fields_rType, compareZeroField_rType_ccOfCompare,
      compareCcField_rType_ccOfCompare]
    rfl
  case j | jal =>
    simp -iota only [decode, opField_jType, targetField_jType]
    rfl
  case beql | bnel | blezl | bgtzl =>
    simp -iota only [decode, fields_iType]
    exact if_pos hwf
  all_goals
    simp -iota only [decode, fields_iType]
    rfl

end Sys2Proof

namespace Sys2Proof.Machine

/-! ## The decoder reads a row that the word matches (R128) -/

/-- What the decoder gives for `w`, if an instruction, is of a row that `w` matches and that exists under the parameters:
it is well-formed, or it is the `sll` that only a word with a nonzero ignored field gives (R128). -/
def ReadsRow (p : Config.Params) (w : Word) (r : Except DecodeError Instr) : Prop :=
  ∀ i, r = .ok i → matchesRow p w i ∧ (i.wellFormed p = true ∨ i = .sll 0#5 0#5 0#5)

section
variable {p : Config.Params} {w : Word} {i : Instr}

@[simp] theorem matchesRow_iff : matchesRow p w i ↔ w &&& (opcodeRow i).maskFor p = (opcodeRow i).bits := .rfl

@[simp] theorem maskFor_mk (bits mask relaxed : Word) :
    OpcodeRow.maskFor p ⟨bits, mask, relaxed⟩ = if p.strictZeroFields then mask else relaxed := rfl

@[simp] theorem readsRow_ok :
    ReadsRow p w (.ok i) ↔ matchesRow p w i ∧ (i.wellFormed p = true ∨ i = .sll 0#5 0#5 0#5) := by
  simp [ReadsRow]

@[simp] theorem readsRow_error (e : DecodeError) : ReadsRow p w (.error e) := fun _ h => by cases h

@[simp] theorem readsRow_whenFixed {b : Bool} : ReadsRow p w (whenFixed b i) ↔ (b = true → ReadsRow p w (.ok i)) := by
  cases b <;> simp [whenFixed]

@[simp] theorem readsRow_whenLikely :
    ReadsRow p w (whenLikely p i) ↔ (p.admitLikely = true → ReadsRow p w (.ok i)) := by
  cases h : p.admitLikely <;> simp [whenLikely, h]

theorem decodeSpecial_readsRow (hop : opField w = 0x00#6) : ReadsRow p w (decodeSpecial p w) := by
  unfold decodeSpecial
  dsimp only
  split
  case h_1 hfunct => -- `nop` and `sll`
    split
    next hw =>
      subst hw
      simp [opcodeRow, Instr.wellFormed]
    next =>
      refine readsRow_ok.mpr ⟨?_, sll_wellFormed_or ..⟩
      simp [and_eq_iff_fields, opcodeRow, hop, BitVec.toNat_eq_nat.mp hfunct]
  case h_2 hfunct => -- `movf` and `movt`
    split
    case h_3 => exact readsRow_error _
    all_goals
      next hsense =>
      simp +contextual [and_eq_iff_fields, opcodeRow, Instr.wellFormed, hop, BitVec.toNat_eq_nat.mp hfunct,
        BitVec.toNat_eq_nat.mp hsense]
  case h_38 => exact readsRow_error _
  -- the rows whose mask depends on `STRICT_ZERO_FIELDS`: `jr`, `jalr`, `syscall` and the traps
  case h_8 | h_9 | h_12 | h_32 | h_33 | h_34 | h_35 | h_36 | h_37 =>
    next hfunct =>
    cases hstrict : p.strictZeroFields <;>
      simp +contextual [and_eq_iff_fields, codeField_eq_zero_iff, opcodeRow, Instr.wellFormed, hop,
        BitVec.toNat_eq_nat.mp hfunct, hstrict]
  all_goals
    next hfunct =>
    simp +contextual [and_eq_iff_fields, opcodeRow, Instr.wellFormed, hop, BitVec.toNat_eq_nat.mp hfunct]

theorem decodeRegimm_readsRow (hop : opField w = 0x01#6) : ReadsRow p w (decodeRegimm p w) := by
  unfold decodeRegimm
  dsimp only
  split
  case h_15 => exact readsRow_error _
  all_goals
    next hrt =>
    simp +contextual [and_eq_iff_fields, opcodeRow, Instr.wellFormed, hop, BitVec.toNat_eq_nat.mp hrt]

theorem decodeSpecial2_readsRow (hop : opField w = 0x1c#6) : ReadsRow p w (decodeSpecial2 p w) := by
  unfold decodeSpecial2
  dsimp only
  split
  case h_8 => exact readsRow_error _
  all_goals
    next hfunct =>
    cases hstrict : p.strictZeroFields <;>
      simp +contextual [and_eq_iff_fields, opcodeRow, Instr.wellFormed, hop, BitVec.toNat_eq_nat.mp hfunct, hstrict]

theorem decodeCop0_readsRow (hop : opField w = 0x10#6) : ReadsRow p w (decodeCop0 w) := by
  unfold decodeCop0
  dsimp only
  split
  case h_3 hrs => -- `eret`
    split
    next hfunct =>
      simp +contextual [and_eq_iff_fields, opcodeRow, Instr.wellFormed, hop, BitVec.toNat_eq_nat.mp hrs, hfunct]
    next => exact readsRow_error _
  case h_4 => exact readsRow_error _
  all_goals
    next hrs =>
    simp +contextual [and_eq_iff_fields, opcodeRow, Instr.wellFormed, hop, BitVec.toNat_eq_nat.mp hrs]

theorem decodeSingle_readsRow (hop : opField w = 0x11#6) (hfmt : rsField w = 0x10#5) :
    ReadsRow p w (decodeSingle w) := by
  unfold decodeSingle
  dsimp only
  split
  case h_13 hfunct => -- `movf.s` and `movt.s`
    split
    case h_3 => exact readsRow_error _
    all_goals
      next hsense =>
      simp [and_eq_iff_fields, opcodeRow, Instr.wellFormed, hop, hfmt, BitVec.toNat_eq_nat.mp hfunct,
        BitVec.toNat_eq_nat.mp hsense]
  case h_21 => exact readsRow_error _
  all_goals
    next hfunct =>
    simp +contextual [and_eq_iff_fields, opcodeRow, Instr.wellFormed, hop, hfmt, BitVec.toNat_eq_nat.mp hfunct]

theorem decodeDouble_readsRow (hop : opField w = 0x11#6) (hfmt : rsField w = 0x11#5) :
    ReadsRow p w (decodeDouble w) := by
  unfold decodeDouble
  dsimp only
  split
  case h_13 hfunct => -- `movf.d` and `movt.d`
    split
    case h_3 => exact readsRow_error _
    all_goals
      next hsense =>
      simp [and_eq_iff_fields, opcodeRow, Instr.wellFormed, hop, hfmt, BitVec.toNat_eq_nat.mp hfunct,
        BitVec.toNat_eq_nat.mp hsense]
  case h_21 => exact readsRow_error _
  all_goals
    next hfunct =>
    simp +contextual [and_eq_iff_fields, opcodeRow, Instr.wellFormed, hop, hfmt, BitVec.toNat_eq_nat.mp hfunct]

theorem decodeCop1_readsRow (hop : opField w = 0x11#6) : ReadsRow p w (decodeCop1 p w) := by
  unfold decodeCop1
  split
  case h_3 hrs => -- the branches on a flag
    split
    case h_4 h0 h1 h2 =>
      simp +contextual [and_eq_iff_fields, opcodeRow, Instr.wellFormed, hop, BitVec.toNat_eq_nat.mp hrs,
        senseField_eq_three h0 h1 h2]
    all_goals
      next hsense =>
      simp +contextual [and_eq_iff_fields, opcodeRow, Instr.wellFormed, hop, BitVec.toNat_eq_nat.mp hrs,
        BitVec.toNat_eq_nat.mp hsense]
  case h_4 hrs => exact decodeSingle_readsRow hop (BitVec.eq_of_toNat_eq hrs)
  case h_5 hrs => exact decodeDouble_readsRow hop (BitVec.eq_of_toNat_eq hrs)
  case h_6 hrs => -- the conversions from a word
    split
    case h_3 => exact readsRow_error _
    all_goals
      next hfunct =>
      simp +contextual [and_eq_iff_fields, opcodeRow, Instr.wellFormed, hop, BitVec.toNat_eq_nat.mp hrs,
        BitVec.toNat_eq_nat.mp hfunct]
  case h_7 => exact readsRow_error _
  all_goals
    next hrs =>
    simp +contextual [and_eq_iff_fields, opcodeRow, Instr.wellFormed, hop, BitVec.toNat_eq_nat.mp hrs]

theorem decode_readsRow (p : Config.Params) (w : Word) : ReadsRow p w (decode p w) := by
  unfold decode
  dsimp only
  split
  case h_1 hop => exact decodeSpecial_readsRow (BitVec.eq_of_toNat_eq hop)
  case h_2 hop => exact decodeRegimm_readsRow (BitVec.eq_of_toNat_eq hop)
  case h_17 hop => exact decodeCop0_readsRow (BitVec.eq_of_toNat_eq hop)
  case h_18 hop => exact decodeCop1_readsRow (BitVec.eq_of_toNat_eq hop)
  case h_21 | h_22 => -- `blezl` and `bgtzl`
    next hop =>
    split
    next hrt => simp +contextual [and_eq_iff_fields, opcodeRow, Instr.wellFormed, BitVec.toNat_eq_nat.mp hop, hrt]
    next => exact readsRow_error _
  case h_23 hop => exact decodeSpecial2_readsRow (BitVec.eq_of_toNat_eq hop)
  case h_42 => exact readsRow_error _
  all_goals
    next hop =>
    simp +contextual [and_eq_iff_fields, opcodeRow, Instr.wellFormed, BitVec.toNat_eq_nat.mp hop]

/-! ## A word that matches a row is read as that row (R128) -/

/-- The decoder gives an instruction of `j`'s row, but for the word of `nop` in the row of `sll`. -/
def DecodesAs (p : Config.Params) (w : Word) (j : Instr) : Prop :=
  ∃ i, decode p w = .ok i ∧ (opcodeRow i = opcodeRow j ∨ (i = .nop ∧ opcodeRow j = opcodeRow (.sll 1#5 1#5 1#5)))

theorem decodesAs_sll (rd rt : Reg) (sh : Shamt) (hop : opField w = 0x00#6) (hfunct : functField w = 0x00#6) :
    DecodesAs p w (.sll rd rt sh) := by
  have hdecode : decode p w = if w = 0#32 then .ok .nop else .ok (.sll (rdField w) (rtField w) (shamtField w)) := by
    rw [decode_special hop, decodeSpecial, hfunct]
    rfl
  by_cases hw : w = 0#32
  · exact ⟨_, hdecode.trans (if_pos hw), .inr ⟨rfl, rfl⟩⟩
  · exact ⟨_, hdecode.trans (if_neg hw), .inl rfl⟩

theorem decodesAs_of_matchesRow {j : Instr} (hwf : j.wellFormed p = true) (h : matchesRow p w j) : DecodesAs p w j := by
  unfold DecodesAs
  cases j
  -- the rows whose mask depends on `STRICT_ZERO_FIELDS`
  case jalr | jr | teq | tne | tge | tgeu | tlt | tltu | syscall =>
    cases hstrict : p.strictZeroFields <;>
      simp [and_eq_iff_fields, opcodeRow, hstrict] at h <;>
      simp -iota only [decode_special, decodeSpecial, h, hstrict, codeField_eq_zero_iff.mpr, and_self,
        Bool.not_false, Bool.or_true] <;>
      exact ⟨_, rfl, .inl rfl⟩
  case clo | clz =>
    cases hstrict : p.strictZeroFields <;>
      simp [and_eq_iff_fields, opcodeRow, hstrict] at h <;>
      simp -iota only [decode_special2, decodeSpecial2, h, hstrict, Bool.not_false, Bool.or_true] <;>
      exact ⟨_, rfl, .inl rfl⟩
  all_goals simp [and_eq_iff_fields, opcodeRow] at h
  case nop =>
    rw [eq_zero_iff_fields.mpr h]
    exact ⟨.nop, rfl, .inl rfl⟩
  case sll rd rt sh =>
    obtain ⟨hop, hfunct⟩ := h
    exact decodesAs_sll rd rt sh hop hfunct
  case add | addu | and | brk | div | divu | mult | multu | nor | or | sllv | sra | srav | srl | srlv | sub | subu | xor
      | slt | sltu | mfhi | mflo | mthi | mtlo | movn | movz | movf | movt =>
    simp -iota only [decode_special, decodeSpecial, h]
    exact ⟨_, rfl, .inl rfl⟩
  case bgez | bgezal | bltzal | bltz | teqi | tnei | tgei | tgeiu | tlti | tltiu =>
    simp -iota only [decode_regimm, decodeRegimm, h]
    exact ⟨_, rfl, .inl rfl⟩
  case bgezl | bgezall | bltzall | bltzl =>
    simp -iota only [decode_regimm, decodeRegimm, h]
    exact ⟨_, if_pos hwf, .inl rfl⟩
  case mul | madd | maddu | msub | msubu =>
    simp -iota only [decode_special2, decodeSpecial2, h]
    exact ⟨_, rfl, .inl rfl⟩
  case mfc0 | mtc0 | eret =>
    simp -iota only [decode_cop0, decodeCop0, h]
    exact ⟨_, rfl, .inl rfl⟩
  case mfc1 | mtc1 | cvtSW | cvtDW | bc1f | bc1t =>
    simp -iota only [decode_cop1, decodeCop1, h]
    exact ⟨_, rfl, .inl rfl⟩
  case bc1fl | bc1tl =>
    simp -iota only [decode_cop1, decodeCop1, h]
    exact ⟨_, if_pos hwf, .inl rfl⟩
  case absS | addS | ceilWS | cEqS | cLeS | cLtS | cvtDS | cvtWS | divS | floorWS | movS | movfS | movtS | movnS | movzS
      | mulS | negS | roundWS | sqrtS | subS | truncWS =>
    simp -iota only [decode_single, decodeSingle, h]
    exact ⟨_, rfl, .inl rfl⟩
  case absD | addD | ceilWD | cEqD | cLeD | cLtD | cvtSD | cvtWD | divD | floorWD | movD | movfD | movtD | movnD | movzD
      | mulD | negD | roundWD | sqrtD | subD | truncWD =>
    simp -iota only [decode_double, decodeDouble, h]
    exact ⟨_, rfl, .inl rfl⟩
  case beql | bnel | blezl | bgtzl =>
    simp -iota only [decode, h]
    exact ⟨_, if_pos hwf, .inl rfl⟩
  all_goals
    simp -iota only [decode, h]
    exact ⟨_, rfl, .inl rfl⟩

end

/-- Settles O3: the decoder reads a row that the word matches, and a word that matches a row is read as that row. -/
theorem decodeIsTheTable : Obligations.DecodeIsTheTable := fun p w =>
  ⟨fun i h => (decode_readsRow p w i h).left, fun _ hwf hmatch => decodesAs_of_matchesRow hwf hmatch⟩

/-! ## Words that no row matches (R130) -/

theorem decode_eq_error {p : Config.Params} {w : Word}
    (hnone : ∀ j : Instr, j.wellFormed p = true → ¬matchesRow p w j) : ∃ e, decode p w = .error e := by
  cases hdecode : decode p w with
  | error e => exact ⟨e, rfl⟩
  | ok i =>
    obtain ⟨hmatch, hwf | rfl⟩ := decode_readsRow p w i hdecode
    · exact absurd hmatch (hnone i hwf)
    · exact absurd hmatch (hnone (.sll 1#5 1#5 1#5) rfl)

/-- Settles O4: the decoder reads no instruction from the word, so the step is the trap entry of the exception. -/
theorem reservedWordRaises : Obligations.ReservedWordRaises := by
  intro s w hirq hfetch hnone
  obtain ⟨hparams, -, -⟩ := s.sampleInputs_world
  obtain ⟨e, he⟩ := decode_eq_error hnone
  refine ⟨_, ?_, s.sampleInputs.takeException_trapEntered .reservedInstruction⟩
  rw [step_of_fetch_ok hirq hfetch, State.runWord, hparams, he]
  rfl

/-- Settles O1: the decoder evaluated at each of the words. -/
theorem decodeOfWrittenWords : Obligations.DecodeOfWrittenWords :=
  ⟨rfl, rfl, rfl, rfl, rfl, rfl, rfl, rfl, rfl, rfl, rfl, rfl, rfl, rfl, rfl⟩

end Sys2Proof.Machine

/-!
PROOFS. The statements of the arithmetic and logical chapter (R150 to R194). The model computes on words and the
statements speak of numbers and bits, so each proof has two parts: the shared operation that the instruction ends in
(one rule for each, from the laws of Laws/Ops.lean), and the number or the bits of the word it writes.
-/

namespace Sys2Proof.Machine

/-! ## From the end of an instruction to what it computes -/

section
variable {s : State} {i : Instr} {rd : Reg}

theorem State.computes_of_putGpr {v : Word} {P : Word → Prop} (h : exec i s = s.putGpr rd v) (hv : P v) :
    s.computes i rd P := by
  obtain ⟨hnext, hwrote⟩ := s.putGpr_wroteGpr rd v
  exact ⟨_, v, h.trans hnext, hwrote, hv⟩

theorem State.computesAcc_of_putAcc {v : DWord} {P : Word → Word → Prop} (h : exec i s = s.putAcc v)
    (hv : P (highWord v) (lowWord v)) : s.computesAcc i P := by
  obtain ⟨hnext, hwrote⟩ := s.putAcc_wroteAcc v
  exact ⟨_, _, _, h.trans hnext, hwrote, hv⟩

theorem overflows_iff (e : Int) : overflows e = true ↔ e < -(2 ^ 31) ∨ 2 ^ 31 ≤ e := by
  simp only [overflows, Bool.or_eq_true, decide_eq_true_eq]
  omega

theorem State.computesChecked_of_putChecked {e : Int} (h : exec i s = s.putChecked rd e) :
    s.computesChecked i rd e := by
  obtain ⟨hover, hput⟩ | ⟨hfits, hput⟩ := s.putChecked_cases rd e
  · have hout := (overflows_iff e).mp hover
    exact ⟨fun hlow hhigh => by omega, fun _ => ⟨_, h.trans hput, s.takeException_trapEntered .overflow⟩⟩
  · have hin := mt (overflows_iff e).mpr (by simp [hfits])
    have hvalue := BitVec.toInt_ofInt_eq_self (w := 32) (n := e) (by decide)
    exact ⟨fun hlow hhigh => State.computes_of_putGpr (h.trans hput) (hvalue hlow hhigh),
      fun hout => absurd hout hin⟩

end

/-! ## Addition and subtraction (R152 to R155, R189, R190) -/

section
variable {w : Nat}

theorem toNat_ofInt_eq_emod (x : Int) : ((BitVec.ofInt w x).toNat : Int) = x % 2 ^ w := by
  rw [BitVec.toNat_ofInt, Int.toNat_of_nonneg (Int.emod_nonneg _ (by positivity))]
  push_cast
  rfl

theorem toNat_add_ofInt (a : BitVec w) (x : Int) :
    ((a + BitVec.ofInt w x).toNat : Int) = (a.toNat + x) % 2 ^ w := by
  rw [← toNat_ofInt_eq_emod, BitVec.ofInt_add, BitVec.ofInt_natCast, BitVec.ofNat_toNat, BitVec.setWidth_eq]

theorem toNat_sub_ofInt (a : BitVec w) (x : Int) :
    ((a - BitVec.ofInt w x).toNat : Int) = (a.toNat - x) % 2 ^ w := by
  rw [BitVec.sub_eq_add_neg, ← BitVec.ofInt_neg, toNat_add_ofInt, Int.sub_eq_add_neg]

theorem toNat_sub_eq_emod (a b : BitVec w) : ((a - b).toNat : Int) = (a.toNat - b.toNat) % 2 ^ w := by
  simpa using toNat_sub_ofInt a b.toNat

end

theorem toInt_signImm (imm : Imm16) : (signImm imm).toInt = imm.toInt := BitVec.toInt_signExtend_of_le (by decide)

/-- Settles O18: each writes a sum or difference of words; the immediate of `addiu` is the word of its signed value. -/
theorem addSubWithoutOverflow : Obligations.AddSubWithoutOverflow := fun _ _ _ _ _ =>
  ⟨State.computes_of_putGpr rfl (BitVec.toNat_add _ _), State.computes_of_putGpr rfl (toNat_add_ofInt _ _),
    State.computes_of_putGpr rfl (toNat_sub_eq_emod _ _)⟩

/-- Settles O19: each ends in the checked write of its exact result. -/
theorem addSubWithOverflow : Obligations.AddSubWithOverflow := by
  intro s rd rs rt imm
  refine ⟨State.computesChecked_of_putChecked rfl, ?_, State.computesChecked_of_putChecked rfl⟩
  rw [← toInt_signImm]
  exact State.computesChecked_of_putChecked rfl

/-! ## Logic (R156, R157, R175, R177, R178, R191, R192) -/

theorem getLsbD_zeroImm (imm : Imm16) (k : Nat) : (zeroImm imm).getLsbD k = imm.getLsbD k := by
  rw [zeroImm, BitVec.getLsbD_setWidth, Bool.and_eq_right_iff_imp, decide_eq_true_eq]
  exact fun h => (BitVec.lt_of_getLsbD h).trans (by decide)

/-- Settles O20: the bits of a logical operation on words, and those of a zero-extended immediate. -/
theorem logicalBits : Obligations.LogicalBits := by
  intro s rd rs rt imm
  refine ⟨State.computes_of_putGpr rfl fun k => BitVec.getLsbD_and,
    State.computes_of_putGpr rfl fun k => BitVec.getLsbD_or,
    State.computes_of_putGpr rfl fun k => BitVec.getLsbD_xor,
    State.computes_of_putGpr rfl fun k hk => ?_, State.computes_of_putGpr rfl fun k => ?_,
    State.computes_of_putGpr rfl fun k => ?_, State.computes_of_putGpr rfl fun k => ?_⟩
  · rw [BitVec.getLsbD_not, BitVec.getLsbD_or, decide_eq_true hk, Bool.true_and]
  · rw [BitVec.getLsbD_and, getLsbD_zeroImm]
  · rw [BitVec.getLsbD_or, getLsbD_zeroImm]
  · rw [BitVec.getLsbD_xor, getLsbD_zeroImm]

/-! ## Shifts (R181 to R186) -/

theorem shiftDistance_eq_mod (v : Word) : shiftDistance v = v.toNat % 32 := by
  rw [shiftDistance, BitVec.extractLsb'_toNat, Nat.shiftRight_zero]

theorem toNat_shiftLeft_eq_mul (v : Word) (n : Nat) : (v <<< n).toNat = v.toNat * 2 ^ n % 2 ^ 32 := by
  rw [BitVec.toNat_shiftLeft, Nat.shiftLeft_eq]

theorem toNat_ushiftRight_eq_div (v : Word) (n : Nat) : (v >>> n).toNat = v.toNat / 2 ^ n := by
  rw [BitVec.toNat_ushiftRight, Nat.shiftRight_eq_div_pow]

theorem toInt_sshiftRight_eq_div (v : Word) (n : Nat) : (v.sshiftRight n).toInt = v.toInt / 2 ^ n := by
  rw [BitVec.toInt_sshiftRight, Int.shiftRight_eq_div_pow]
  push_cast
  rfl

/-- Settles O21: a shift is a product or quotient by a power of two, and the variable distance is the low five bits. -/
theorem shifts : Obligations.Shifts := by
  intro s rd rt rs shamt
  rw [← shiftDistance_eq_mod]
  exact ⟨State.computes_of_putGpr rfl (toNat_shiftLeft_eq_mul _ _),
    State.computes_of_putGpr rfl (toNat_shiftLeft_eq_mul _ _),
    State.computes_of_putGpr rfl (toNat_ushiftRight_eq_div _ _),
    State.computes_of_putGpr rfl (toNat_ushiftRight_eq_div _ _),
    State.computes_of_putGpr rfl (toInt_sshiftRight_eq_div _ _),
    State.computes_of_putGpr rfl (toInt_sshiftRight_eq_div _ _)⟩

/-! ## Counting leading bits (R158, R159) -/

/-- A field above a word that fits below it adds its number times the weight of its lowest bit. -/
theorem toNat_fieldAt_or {n m : Nat} (k : Nat) (x : BitVec n) {rest : Word} (hrest : rest.toNat = m) (hm : m < 2 ^ k)
    (hk : n + k ≤ 32) : (fieldAt k x ||| rest).toNat = x.toNat * 2 ^ k + m := by
  have hx : x.toNat * 2 ^ k < 2 ^ 32 := calc
    x.toNat * 2 ^ k < 2 ^ n * 2 ^ k := Nat.mul_lt_mul_of_pos_right x.isLt (by positivity)
    _ = 2 ^ (n + k) := (Nat.pow_add ..).symm
    _ ≤ 2 ^ 32 := Nat.pow_le_pow_right (by decide) hk
  rw [fieldAt, BitVec.toNat_or, BitVec.toNat_shiftLeft, BitVec.toNat_setWidth_of_le (by omega), Nat.shiftLeft_eq,
    Nat.mod_eq_of_lt hx, hrest, Nat.mul_comm, Nat.two_pow_add_eq_or_of_lt hm]

theorem toNat_rType (op : BitVec 6) (rs rt rd shamt : BitVec 5) (funct : BitVec 6) :
    (rType op rs rt rd shamt funct).toNat = op.toNat * 2 ^ 26 + (rs.toNat * 2 ^ 21 + (rt.toNat * 2 ^ 16 +
      (rd.toNat * 2 ^ 11 + (shamt.toNat * 2 ^ 6 + funct.toNat)))) := by
  have h0 : (fieldAt 0 funct).toNat = funct.toNat := by
    rw [fieldAt, BitVec.shiftLeft_zero, BitVec.toNat_setWidth_of_le (by decide)]
  have h6 := toNat_fieldAt_or 6 shamt h0 (by omega) (by decide)
  have h11 := toNat_fieldAt_or 11 rd h6 (by omega) (by decide)
  have h16 := toNat_fieldAt_or 16 rt h11 (by omega) (by decide)
  have h21 := toNat_fieldAt_or 21 rs h16 (by omega) (by decide)
  have h26 := toNat_fieldAt_or 26 op h21 (by omega) (by decide)
  simpa only [rType, BitVec.or_assoc] using h26

/-- The words of R158 and R159, as the encoder makes them of their fields. -/
theorem countWord_eq_rType (rd rs : Reg) (funct : BitVec 6) :
    BitVec.ofNat 32 (0x1c * 2 ^ 26 + rs.toNat * 2 ^ 21 + rd.toNat * 2 ^ 11 + funct.toNat) =
      rType 0x1c#6 rs 0x00#5 rd 0x00#5 funct := by
  rw [← BitVec.setWidth_eq (rType ..), ← BitVec.ofNat_toNat, toNat_rType]
  simp [Nat.add_assoc]

/-- The run among the low `n` bits ends with them, or at a bit that differs. -/
theorem leadingRun_spec (v : Word) (b : Bool) (n : Nat) :
    leadingRun v b n ≤ n ∧ (∀ k, k < leadingRun v b n → v.getLsbD (n - 1 - k) = b) ∧
      (leadingRun v b n < n → v.getLsbD (n - 1 - leadingRun v b n) = !b) := by
  induction n with
  | zero => exact ⟨le_rfl, fun k hk => absurd hk k.not_lt_zero, fun h => absurd h (Nat.lt_irrefl 0)⟩
  | succ n ih =>
    obtain ⟨hle, hrun, hend⟩ := ih
    by_cases hbit : v.getLsbD n = b
    · rw [leadingRun, if_pos hbit]
      have hindex : ∀ k, n + 1 - 1 - (k + 1) = n - 1 - k := by omega
      refine ⟨by omega, fun k hk => ?_, fun h => ?_⟩
      · cases k with
        | zero => exact hbit
        | succ k => rw [hindex]; exact hrun k (by omega)
      · rw [hindex]; exact hend (by omega)
    · rw [leadingRun, if_neg hbit]
      exact ⟨n.succ.zero_le, fun k hk => absurd hk k.not_lt_zero, fun _ => Bool.eq_not.mpr hbit⟩

theorem toNat_leadingRun (v : Word) (b : Bool) :
    (BitVec.ofNat 32 (leadingRun v b 32)).toNat = leadingRun v b 32 := by
  obtain ⟨hle, -, -⟩ := leadingRun_spec v b 32
  rw [BitVec.toNat_ofNat, Nat.mod_eq_of_lt (by omega)]

/-- Settles O22: the encoder writes the two words, and the count is the run from bit 31 down. -/
theorem countLeading : Obligations.CountLeading := fun rd rs =>
  ⟨fun p => ⟨
      (congrArg (decode p) (countWord_eq_rType rd rs 0x21#6)).trans (decodeEncodeAgree p (.clo rd rs) rfl),
      (congrArg (decode p) (countWord_eq_rType rd rs 0x20#6)).trans (decodeEncodeAgree p (.clz rd rs) rfl)⟩, fun s =>
    ⟨State.computes_of_putGpr rfl (by rw [toNat_leadingRun]; exact leadingRun_spec _ true 32),
      State.computes_of_putGpr rfl (by rw [toNat_leadingRun]; exact leadingRun_spec _ false 32)⟩⟩

/-! ## Multiplication (R164 to R172) -/

theorem toNat_parts (v : DWord) : (highWord v).toNat * 2 ^ 32 + (lowWord v).toNat = v.toNat := by
  rw [← toNat_joinWords, joinWords_parts]

theorem toInt_parts (v : DWord) : (highWord v).toInt * 2 ^ 32 + (lowWord v).toNat = v.toInt := by
  have hparts := toNat_parts v
  have hlow := (lowWord v).isLt
  rw [BitVec.toInt_eq_toNat_cond, BitVec.toInt_eq_toNat_cond]
  split <;> split <;> omega

theorem toInt_signedProduct (a b : Word) : (signedProduct a b).toInt = a.toInt * b.toInt := by
  have hlow := @BitVec.le_toInt_mul_toInt 32 a b
  have hhigh := @BitVec.toInt_mul_toInt_le 32 a b
  exact BitVec.toInt_ofInt_eq_self (by decide) (by omega) (by omega)

theorem toNat_unsignedProduct (a b : Word) : (unsignedProduct a b).toNat = a.toNat * b.toNat := by
  rw [unsignedProduct, BitVec.toNat_ofNat, Nat.mod_eq_of_lt (BitVec.toNat_mul_toNat_lt (w := 32))]

theorem unsignedProduct_eq_ofInt (a b : Word) : unsignedProduct a b = BitVec.ofInt 64 (a.toNat * b.toNat) :=
  (BitVec.ofInt_natCast 64 (a.toNat * b.toNat)).symm

theorem State.toNat_acc (s : State) : (s.acc.toNat : Int) = s.hi.toNat * 2 ^ 32 + s.lo.toNat := by
  exact_mod_cast toNat_joinWords s.hi s.lo

theorem State.computesAcc_of_putAcc_toNat {s : State} {i : Instr} {v : DWord} {x : Int} (h : exec i s = s.putAcc v)
    (hv : (v.toNat : Int) = x) : s.computesAcc i fun hi lo => (hi.toNat * 2 ^ 32 + lo.toNat : Int) = x :=
  State.computesAcc_of_putAcc h (by rw [← hv]; exact_mod_cast toNat_parts v)

/-- Settles O23: `hi || lo` is a double word, whose number is the product, or the old one plus or minus it. -/
theorem multiply : Obligations.Multiply := by
  intro s rs rt
  dsimp only
  rw [← s.toNat_acc]
  refine ⟨State.computesAcc_of_putAcc rfl ?_, State.computesAcc_of_putAcc rfl ?_,
    State.computesAcc_of_putAcc_toNat rfl (toNat_add_ofInt _ _), State.computesAcc_of_putAcc_toNat rfl ?_,
    State.computesAcc_of_putAcc_toNat rfl (toNat_sub_ofInt _ _), State.computesAcc_of_putAcc_toNat rfl ?_⟩
  · rw [toInt_parts, toInt_signedProduct]
  · rw [toNat_parts, toNat_unsignedProduct]
  · rw [unsignedProduct_eq_ofInt, toNat_add_ofInt]
  · rw [unsignedProduct_eq_ofInt, toNat_sub_ofInt]

/-- Settles O24: the product of words is the low word of the product; the write of free values leaves the rest. -/
theorem mulLowWord : Obligations.MulLowWord := fun s rd rs rt =>
  ⟨_, s.getGpr rs * s.getGpr rt, rfl, fun r => s.getGpr_setGpr rd r _, BitVec.toNat_mul _ _, ⟨rfl, rfl, rfl, rfl⟩,
    fun _ => rfl, fun _ => rfl, ⟨rfl, rfl⟩, fun _ => rfl, ⟨rfl, rfl⟩, ⟨rfl, rfl, rfl⟩⟩

/-! ## Division (R160, R161, R194) -/

/-- The two properties that R194 asks of a quotient `q` and a remainder `r`. -/
def IsQuotient (n d q r : Int) : Prop := n = q * d + r ∧ |r| < |d|

theorem isQuotient_ediv {n d : Int} (hd : d ≠ 0) : IsQuotient n d (n / d) (n % d) :=
  ⟨(Int.ediv_mul_add_emod n d).symm, by rw [abs_of_nonneg (Int.emod_nonneg n hd)]; exact Int.emod_lt_abs n hd⟩

theorem isQuotient_tdiv {n d : Int} (hd : d ≠ 0) : IsQuotient n d (n.tdiv d) (n.tmod d) := by
  refine ⟨(Int.tdiv_mul_add_tmod n d).symm, ?_⟩
  rw [Int.abs_eq_natAbs, Int.abs_eq_natAbs, Int.natAbs_tmod]
  exact_mod_cast Nat.mod_lt _ (Int.natAbs_pos.mpr hd)

theorem fmod_range_of_neg (n : Int) {d : Int} (hd : d < 0) : d < n.fmod d ∧ n.fmod d ≤ 0 := by
  have hlow := Int.fmod_nonneg_of_pos (-n) (Int.neg_pos_of_neg hd)
  have hhigh := Int.fmod_lt_of_pos (-n) (Int.neg_pos_of_neg hd)
  rw [Int.neg_fmod_neg] at hlow hhigh
  omega

theorem isQuotient_fdiv {n d : Int} (hd : d ≠ 0) : IsQuotient n d (n.fdiv d) (n.fmod d) := by
  refine ⟨(Int.fdiv_mul_add_fmod n d).symm, ?_⟩
  obtain hneg | hpos := Int.lt_or_gt_of_ne hd
  · obtain ⟨hlow, hhigh⟩ := fmod_range_of_neg n hneg
    rw [abs_of_neg hneg, abs_of_nonpos hhigh]
    omega
  · rw [abs_of_pos hpos, abs_of_nonneg (Int.fmod_nonneg_of_pos n hpos)]
    exact Int.fmod_lt_of_pos n hpos

theorem isQuotient_signedQuotient (c : Config.SignedDiv) {n d : Int} (hd : d ≠ 0) (draw : Nat) :
    IsQuotient n d (signedQuotient c n d draw).1 (signedQuotient c n d draw).2 := by
  cases c with
  | truncating => exact isQuotient_tdiv hd
  | flooring => exact isQuotient_fdiv hd
  | function | anyConvention => exact quotientPair_spec _ n d hd

/-- Truncating division leaves a remainder with the sign of the dividend. -/
theorem tmod_sign (n d : Int) : n.tmod d = 0 ∨ (n.tmod d < 0 ↔ n < 0) := by
  have hsign := Int.sign_tmod n d
  split at hsign
  · exact .inl (Int.sign_eq_zero_iff_zero.mp hsign)
  · rw [← Int.sign_eq_neg_one_iff_neg, hsign, Int.sign_eq_neg_one_iff_neg]; exact .inr .rfl

/-- Flooring division leaves a remainder with the sign of the divisor. -/
theorem fmod_sign (n : Int) {d : Int} (hd : d ≠ 0) : n.fmod d = 0 ∨ (n.fmod d < 0 ↔ d < 0) := by
  obtain hneg | hpos := Int.lt_or_gt_of_ne hd
  · obtain ⟨-, hhigh⟩ := fmod_range_of_neg n hneg
    omega
  · have hlow := Int.fmod_nonneg_of_pos n hpos
    omega

theorem isQuotient_iff_natAbs {n d q r : Int} : IsQuotient n d q r ↔ n = q * d + r ∧ r.natAbs < d.natAbs := by
  rw [IsQuotient, Int.abs_eq_natAbs, Int.abs_eq_natAbs, Int.ofNat_lt]

/-- With `|d| ≥ 2`, `|q| * |d| ≤ |n| + |r|` leaves `|q|` below `2^31`; with `|d| = 1`, `q` is `n` or `-n`. -/
theorem IsQuotient.fits {n d q r : Int} (h : IsQuotient n d q r) (hlow : -(2 ^ 31) ≤ n) (hhigh : n < 2 ^ 31)
    (hne : ¬(n = -(2 ^ 31) ∧ d = -1)) : -(2 ^ 31) ≤ q ∧ q < 2 ^ 31 := by
  obtain ⟨hn, hr⟩ := isQuotient_iff_natAbs.mp h
  obtain rfl | rfl | hlarge : d = 1 ∨ d = -1 ∨ 2 ≤ d.natAbs := by omega
  · omega
  · omega
  · have hprod : q.natAbs * d.natAbs = (n - r).natAbs := by rw [← Int.natAbs_mul, hn, Int.add_sub_cancel]
    have hsmall : q.natAbs < 2 ^ 31 := by
      by_contra hbig
      have hmul := Nat.mul_le_mul_right d.natAbs (Nat.le_of_not_lt hbig)
      omega
    omega

theorem IsQuotient.toInt_ofInt {a b : Word} {q r : Int} (h : IsQuotient a.toInt b.toInt q r)
    (hne : ¬(a.toInt = -(2 ^ 31) ∧ b.toInt = -1)) : (BitVec.ofInt 32 q).toInt = q ∧ (BitVec.ofInt 32 r).toInt = r := by
  have halow := a.le_toInt
  have hahigh := a.toInt_lt
  have hblow := b.le_toInt
  have hbhigh := b.toInt_lt
  obtain ⟨hqlow, hqhigh⟩ := h.fits halow hahigh hne
  obtain ⟨-, hr⟩ := isQuotient_iff_natAbs.mp h
  exact ⟨BitVec.toInt_ofInt_eq_self (by decide) hqlow hqhigh,
    BitVec.toInt_ofInt_eq_self (by decide) (by omega) (by omega)⟩

/-! The ends of a division, one equation for each case of R194. -/

theorem noQuotient_iff (n d : Int) :
    (d = 0 || (n == -(2 ^ 31) && d == -1)) = true ↔ d = 0 ∨ (n = -(2 ^ 31) ∧ d = -1) := by simp

section
variable {s : State} {rs rt : Reg}

theorem exec_div_of_noQuotient
    (h : s.getGpr rt = 0#32 ∨ (s.getGpr rs = 0x80000000#32 ∧ s.getGpr rt = 0xFFFFFFFF#32)) :
    exec (.div rs rt) s =
      (s.drawn 1).putQuotient (s.freeQuotient (s.getGpr rs)).1 (s.freeQuotient (s.getGpr rs)).2 := by
  refine if_pos ?_
  obtain h | ⟨hn, hd⟩ := h
  · rw [h]; rfl
  · rw [hn, hd]; rfl

theorem exec_div_of_nonneg (hn : 0 ≤ (s.getGpr rs).toInt) (hd : 0 < (s.getGpr rt).toInt) :
    exec (.div rs rt) s =
      s.putQuotient (BitVec.ofInt 32 ((s.getGpr rs).toInt / (s.getGpr rt).toInt))
        (BitVec.ofInt 32 ((s.getGpr rs).toInt % (s.getGpr rt).toInt)) := by
  rw [← Int.tdiv_eq_ediv_of_nonneg hn, ← Int.tmod_eq_emod_of_nonneg hn]
  have hfits := mt (noQuotient_iff (s.getGpr rs).toInt (s.getGpr rt).toInt).mp (by omega)
  exact (if_neg hfits).trans (if_pos (by simp [hn, hd.le]))

theorem exec_div_of_neg (hneg : (s.getGpr rs).toInt < 0 ∨ (s.getGpr rt).toInt < 0) (hd : (s.getGpr rt).toInt ≠ 0)
    (hne : ¬((s.getGpr rs).toInt = -(2 ^ 31) ∧ (s.getGpr rt).toInt = -1)) :
    let qr := signedQuotient s.params.signedDiv (s.getGpr rs).toInt (s.getGpr rt).toInt s.draws
    exec (.div rs rt) s = (s.drawn (if s.params.signedDiv = .anyConvention then 1 else 0)).putQuotient
      (BitVec.ofInt 32 qr.1) (BitVec.ofInt 32 qr.2) := by
  have hfits := mt (noQuotient_iff (s.getGpr rs).toInt (s.getGpr rt).toInt).mp (by omega)
  refine (if_neg hfits).trans (if_neg ?_)
  rw [Bool.and_eq_true, decide_eq_true_eq, decide_eq_true_eq]
  omega

theorem exec_divu_of_zero (h : s.getGpr rt = 0#32) :
    exec (.divu rs rt) s =
      (s.drawn 1).putQuotient (s.freeQuotient (s.getGpr rs)).1 (s.freeQuotient (s.getGpr rs)).2 :=
  if_pos (by rw [h]; rfl)

theorem exec_divu_of_ne_zero (h : s.getGpr rt ≠ 0#32) :
    exec (.divu rs rt) s =
      s.putQuotient (BitVec.ofNat 32 ((s.getGpr rs).toNat / (s.getGpr rt).toNat))
        (BitVec.ofNat 32 ((s.getGpr rs).toNat % (s.getGpr rt).toNat)) :=
  if_neg fun hzero => h (BitVec.eq_of_toNat_eq hzero)

end

/-- What leaving a quotient and a remainder after `n` draws, and going on, leaves. -/
theorem State.putQuotient_left (s : State) (n : Nat) (lo hi : Word) :
    ∃ t, (s.drawn n).putQuotient lo hi = .next t ∧ t.lo = lo ∧ t.hi = hi ∧ t.draws = s.draws + n ∧ s.sameButAcc t ∧
      s.goesOn t :=
  ⟨_, rfl, rfl, rfl, rfl,
    ⟨fun _ => rfl, ⟨rfl, rfl, rfl, rfl⟩, fun _ => rfl, fun _ => rfl, ⟨rfl, rfl⟩, fun _ => rfl, ⟨rfl, rfl⟩⟩,
    ⟨rfl, rfl, rfl⟩⟩

theorem State.computesAcc_of_putQuotient {s : State} {i : Instr} {lo hi : Word} {P : Word → Word → Prop}
    (h : exec i s = s.putQuotient lo hi) (hP : P hi lo) : s.computesAcc i P := by
  obtain ⟨t, hnext, hlo, hhi, hdraws, hframe, hon⟩ := s.putQuotient_left 0 lo hi
  exact ⟨t, hi, lo, h.trans hnext, ⟨hhi, hlo, hframe, hdraws, hon⟩, hP⟩

theorem State.leavesAcc_of_putQuotient {s : State} {i : Instr} {n : Nat} {lo hi : Word}
    (h : exec i s = (s.drawn n).putQuotient lo hi) : ∃ t, exec i s = .next t ∧ s.sameButAcc t ∧ s.goesOn t := by
  obtain ⟨t, hnext, -, -, -, hframe, hon⟩ := s.putQuotient_left n lo hi
  exact ⟨t, h.trans hnext, hframe, hon⟩

theorem toNat_ofNat_div (a b : Word) : (BitVec.ofNat 32 (a.toNat / b.toNat)).toNat = a.toNat / b.toNat := by
  rw [BitVec.toNat_ofNat, Nat.mod_eq_of_lt ((Nat.div_le_self _ _).trans_lt a.isLt)]

theorem toNat_ofNat_mod (a b : Word) : (BitVec.ofNat 32 (a.toNat % b.toNat)).toNat = a.toNat % b.toNat := by
  rw [BitVec.toNat_ofNat, Nat.mod_eq_of_lt ((Nat.mod_le _ _).trans_lt a.isLt)]

/-- Settles O25: the quotients and remainders fit a word, and a free pair changes only `hi` and `lo`. -/
theorem divideUnsignedAndOpen : Obligations.DivideUnsignedAndOpen := by
  intro s rs rt
  refine ⟨fun hn hd => ?_, fun hd => ?_, fun h => State.leavesAcc_of_putQuotient (exec_div_of_noQuotient h),
    fun h => State.leavesAcc_of_putQuotient (exec_divu_of_zero h)⟩
  · exact State.computesAcc_of_putQuotient (exec_div_of_nonneg hn hd)
      ((isQuotient_ediv hd.ne').toInt_ofInt fun ⟨h, _⟩ => by omega)
  · exact State.computesAcc_of_putQuotient (exec_divu_of_ne_zero hd) ⟨toNat_ofNat_div _ _, toNat_ofNat_mod _ _⟩

/-- Settles O26: every convention delivers a pair with R194's properties, and such a pair fits two words. -/
theorem divideSigned : Obligations.DivideSigned := by
  intro s rs rt
  dsimp only
  intro hneg hd hne
  have hquotient := isQuotient_signedQuotient s.params.signedDiv (n := (s.getGpr rs).toInt) hd s.draws
  obtain ⟨hlo, hhi⟩ := hquotient.toInt_ofInt hne
  obtain ⟨hdividend, hremainder⟩ := hquotient
  obtain ⟨t, hnext, htlo, hthi, hdraws, hframe, hon⟩ := s.putQuotient_left _ _ _
  refine ⟨t, (exec_div_of_neg hneg hd hne).trans hnext, hframe, hon, ?_⟩
  rw [htlo, hthi, hlo, hhi]
  refine ⟨hdividend, hremainder, fun hc => ?_, fun hc => ?_, fun hc => ?_⟩
  · rw [hc]; exact tmod_sign _ _
  · rw [hc]; exact fmod_sign _ hd
  · rw [hdraws, if_neg hc]; rfl

end Sys2Proof.Machine

/-!
PROOFS. The statements of the constant and comparison chapter (R220 to R225) and of `li` (R221). The number of an
immediate in the upper halfword and the way a word is made of its halves are one equation; `li` is settled by running
its expansion one instruction at a time, each of which writes the destination and nothing else.
-/

namespace Sys2Proof.Machine

/-! ## Numbers of immediates and of comparisons (R110, R112) -/

/-- An upper and a lower halfword together (R112, R331). -/
theorem toNat_upperImm_or_zeroImm (high low : Imm16) :
    (upperImm high ||| zeroImm low).toNat = high.toNat * 2 ^ 16 + low.toNat :=
  toNat_fieldAt_or 16 high (BitVec.toNat_setWidth_of_le (by decide)) low.isLt (by decide)

theorem toNat_upperImm (imm : Imm16) : (upperImm imm).toNat = imm.toNat * 2 ^ 16 := by
  simpa [zeroImm] using toNat_upperImm_or_zeroImm imm 0#16

theorem toNat_signImm (imm : Imm16) : ((signImm imm).toNat : Int) = imm.toInt % 2 ^ 32 := toNat_ofInt_eq_emod _

theorem toNat_truthValue (c : Prop) [Decidable c] : (truthValue (decide c)).toNat = if c then 1 else 0 := by
  by_cases hc : c <;> simp [truthValue, hc]

/-- Settles O28: a comparison writes a truth value, and the immediates are the words of their signed numbers. -/
theorem setLessAndLui : Obligations.SetLessAndLui := by
  intro s rd rs rt imm
  refine ⟨State.computes_of_putGpr rfl (toNat_upperImm imm), State.computes_of_putGpr rfl (toNat_truthValue _),
    State.computes_of_putGpr rfl (toNat_truthValue _), ?_, ?_⟩
  · rw [← toInt_signImm]
    exact State.computes_of_putGpr rfl (toNat_truthValue _)
  · simp only [← toNat_signImm, Int.ofNat_lt]
    exact State.computes_of_putGpr rfl (toNat_truthValue _)

/-! ## The instructions of `li` (R221) -/

theorem zeroImm_lowerHalf_of_fitsUnsigned {v : Word} (h : fitsUnsigned v = true) : zeroImm (lowerHalf v) = v :=
  eq_of_beq h

theorem signImm_lowerHalf_of_fitsSigned {v : Word} (h : fitsSigned v = true) : signImm (lowerHalf v) = v :=
  eq_of_beq h

/-- A word is made of its halves. -/
theorem upperImm_upperHalf_or_zeroImm_lowerHalf (v : Word) : upperImm (upperHalf v) ||| zeroImm (lowerHalf v) = v := by
  apply BitVec.eq_of_toNat_eq
  rw [toNat_upperImm_or_zeroImm, upperHalf, lowerHalf, BitVec.extractLsb'_toNat, BitVec.extractLsb'_toNat]
  omega

theorem upperImm_upperHalf_of_lowerHalf_eq_zero {v : Word} (h : lowerHalf v = 0#16) : upperImm (upperHalf v) = v := by
  simpa [h, zeroImm] using upperImm_upperHalf_or_zeroImm_lowerHalf v

/-- Executing the instructions leaves `v` in `rd` and changes no other register and nothing but control. -/
def State.runLoads (s : State) (is : List Instr) (rd : Reg) (v : Word) : Prop :=
  ∃ t, execAll is s = .next t ∧ s.gprsBut t rd v ∧ s.sameButGprs t

section
variable {s : State} {i : Instr} {is : List Instr} {rd : Reg} {u v : Word}

theorem execAll_cons_of_next {t : State} (h : exec i s = .next t) : execAll (i :: is) s = execAll is t := by
  rw [execAll, h]

theorem State.runLoads_nil (h : s.getGpr rd = v) : s.runLoads [] rd v := by
  refine ⟨s, rfl, fun r => ?_,
    ⟨rfl, rfl⟩, ⟨rfl, rfl, rfl, rfl⟩, fun _ => rfl, fun _ => rfl, ⟨rfl, rfl⟩, fun _ => rfl, ⟨rfl, rfl⟩⟩
  split
  case isTrue hr =>
    obtain ⟨rfl, -⟩ := hr
    exact h
  case isFalse => rfl

/-- An instruction that writes `rd` only may come first: what follows writes `rd` again. -/
theorem State.runLoads_cons (h : exec i s = s.putGpr rd u) (hrest : (s.setGpr rd u).advance.runLoads is rd v) :
    s.runLoads (i :: is) rd v := by
  obtain ⟨t, hrun, hgprs, hframe⟩ := hrest
  refine ⟨t, (execAll_cons_of_next h).trans hrun, fun r => ?_, hframe⟩
  obtain ⟨-, hwrote, -⟩ := s.putGpr_wroteGpr rd u
  rw [hgprs r, hwrote r]
  split <;> rfl

theorem State.runLoads_single (hrd : rd ≠ 0#5) (h : exec i s = s.putGpr rd v) : s.runLoads [i] rd v :=
  State.runLoads_cons h (State.runLoads_nil (s.getGpr_setGpr_self rd v hrd))

end

theorem exec_ori_zeroReg (s : State) (rd : Reg) (imm : Imm16) :
    exec (.ori rd zeroReg imm) s = s.putGpr rd (zeroImm imm) :=
  congrArg (s.putGpr rd) BitVec.zero_or

theorem exec_addiu_zeroReg (s : State) (rd : Reg) (imm : Imm16) :
    exec (.addiu rd zeroReg imm) s = s.putGpr rd (signImm imm) :=
  congrArg (s.putGpr rd) (BitVec.zero_add _)

/-- `lui` leaves the upper half with a lower half of 0, into which `ori` puts the lower one. -/
theorem State.runLoads_lui_ori (s : State) {rd : Reg} (hrd : rd ≠ 0#5) (v : Word) :
    s.runLoads [.lui rd (upperHalf v), .ori rd rd (lowerHalf v)] rd v := by
  have hword : (s.setGpr rd (upperImm (upperHalf v))).advance.getGpr rd ||| zeroImm (lowerHalf v) = v :=
    (congrArg (· ||| zeroImm (lowerHalf v)) (s.getGpr_setGpr_self rd _ hrd)).trans
      (upperImm_upperHalf_or_zeroImm_lowerHalf v)
  exact State.runLoads_cons rfl (State.runLoads_single hrd (congrArg (State.putGpr _ rd) hword))

/-- Settles O29, by the four cases of the expansion. -/
theorem liLoadsItsValue : Obligations.LiLoadsItsValue := by
  intro s rd v hrd
  change s.runLoads (expandLi rd v) rd v
  unfold expandLi
  split
  case isTrue hunsigned =>
    exact State.runLoads_single hrd (by rw [exec_ori_zeroReg, zeroImm_lowerHalf_of_fitsUnsigned hunsigned])
  case isFalse =>
    split
    case isTrue hsigned =>
      exact State.runLoads_single hrd (by rw [exec_addiu_zeroReg, signImm_lowerHalf_of_fitsSigned hsigned])
    case isFalse =>
      split
      case isTrue hlow =>
        exact State.runLoads_single hrd (congrArg (s.putGpr rd) (upperImm_upperHalf_of_lowerHalf_eq_zero hlow))
      case isFalse => exact s.runLoads_lui_ori hrd v

end Sys2Proof.Machine

/-!
PROOFS. The statements of the branch and jump chapter (R250 to R289, R401, R338, R350). A control transfer is a guard
(R289), perhaps a link (R252), and one of three ends of a step (R10 step 5). So there is one rule for the guard, one for
the link and one for each end, and an instruction only adds its condition; the targets are one equation each (R113,
R114). What is refused by name is read off the guard that each instruction begins with.
-/

namespace Sys2Proof.Machine

/-! ## Targets and the link value (R113, R114, R252) -/

theorem State.branchTarget_eq_offsetAddress (s : State) (off : Imm16) : s.branchTarget off = s.offsetAddress off := by
  have hshift : signImm off <<< 2 = BitVec.ofInt 32 (4 * off.toInt) := by
    rw [BitVec.shiftLeft_eq_mul_twoPow, BitVec.mul_comm, BitVec.ofInt_mul]
    rfl
  rw [State.branchTarget, State.offsetAddress, hshift, BitVec.ofInt_add, BitVec.ofInt_add, BitVec.ofInt_natCast,
    BitVec.ofNat_toNat, BitVec.setWidth_eq]
  rfl

/-- The first address of the 256 MB region of `v`. -/
theorem toNat_region (v : Word) : (v &&& 0xF0000000#32).toNat = 2 ^ 28 * (v.toNat / 2 ^ 28) := by
  have hmask : v &&& 0xF0000000#32 = v >>> 28 <<< 28 := by rw [BitVec.shiftLeft_ushiftRight]; rfl
  rw [hmask, toNat_shiftLeft_eq_mul, toNat_ushiftRight_eq_div]
  omega

theorem toNat_wordIndex (target : Target26) : (target.setWidth 32 <<< 2).toNat = target.toNat * 4 := by
  rw [toNat_shiftLeft_eq_mul, BitVec.toNat_setWidth_of_le (by decide)]
  omega

theorem State.jumpTarget_eq_ofNat (s : State) (target : Target26) :
    s.jumpTarget target = BitVec.ofNat 32 ((s.pc + 4#32).toNat / 2 ^ 28 * 2 ^ 28 + target.toNat * 4) := by
  apply BitVec.eq_of_toNat_eq
  rw [State.jumpTarget, BitVec.toNat_or, toNat_region, toNat_wordIndex,
    ← Nat.two_pow_add_eq_or_of_lt (by omega), BitVec.toNat_ofNat]
  omega

theorem State.linkValue_eq_returnAddress (s : State) : s.linkValue = s.returnAddress := by
  rw [State.linkValue, State.returnAddress, BitVec.ofNat_add, BitVec.ofNat_toNat, BitVec.setWidth_eq]
  split <;> rfl

/-! ## The link (R252) -/

theorem State.setGpr_linked (s : State) (rd : Reg) : s.linked (s.setGpr rd s.linkValue) rd := by
  refine ⟨fun r => ?_,
    ⟨⟨rfl, rfl⟩, ⟨rfl, rfl, rfl, rfl⟩, fun _ => rfl, fun _ => rfl, ⟨rfl, rfl⟩, fun _ => rfl, ⟨rfl, rfl⟩⟩, rfl⟩
  rw [State.getGpr_setGpr, s.linkValue_eq_returnAddress]

section
variable {s u : State} {rd : Reg}

theorem State.linked.transferTo (h : s.linked u rd) (target : Word) : s.linked (u.transferTo target) rd := h

theorem State.linked.branchIf (h : s.linked u rd) (taken : Bool) (target : Word) :
    s.linked (u.branchIf taken target) rd := by
  cases taken <;> exact h

theorem State.linked.branchLikelyIf (h : s.linked u rd) (taken : Bool) (target : Word) :
    s.linked (u.branchLikelyIf taken target) rd := by
  cases taken <;> exact h

end

/-! ## Nothing but control changes -/

/-- Every end of a step of R10 step 5 is an update of these three fields. -/
theorem State.sameButControl_setControl (s : State) (pc npc : Word) (slot : Bool) :
    s.sameButControl { s with pc := pc, npc := npc, inDelaySlot := slot } :=
  ⟨⟨fun _ => rfl, ⟨rfl, rfl⟩, fun _ => rfl, fun _ => rfl, ⟨rfl, rfl⟩, fun _ => rfl, ⟨rfl, rfl⟩, rfl⟩,
    ⟨rfl, rfl, rfl, rfl⟩⟩

theorem State.transferTo_sameButControl (s : State) (target : Word) : s.sameButControl (s.transferTo target) :=
  s.sameButControl_setControl _ _ _

theorem State.branchIf_sameButControl (s : State) (taken : Bool) (target : Word) :
    s.sameButControl (s.branchIf taken target) := by
  cases taken <;> exact s.sameButControl_setControl _ _ _

theorem State.branchLikelyIf_sameButControl (s : State) (taken : Bool) (target : Word) :
    s.sameButControl (s.branchLikelyIf taken target) := by
  cases taken <;> exact s.sameButControl_setControl _ _ _

/-! ## Where control goes (R10 step 5, R250, R251, R253) -/

theorem State.transferTo_wentTo (s : State) (target : Word) : s.wentTo (s.transferTo target) target :=
  ⟨fun h => by simp [h], fun h => by simp [h]⟩

theorem State.annulDelaySlot_skippedSlot (s : State) : s.skippedSlot s.annulDelaySlot :=
  ⟨fun h => by simp [h], fun h => by simp [h], rfl⟩

section
variable {taken : Bool} {P Q : Prop}

/-- A branch taken goes to its target; one not taken ends in its other state. -/
theorem State.wentTo_or {Other : State → Prop} (s : State) {u : State} (target : Word) (hu : Other u)
    (hP : taken = true ↔ P) (hQ : Q → ¬P) :
    (P → s.wentTo (if taken then s.transferTo target else u) target) ∧
      (Q → Other (if taken then s.transferTo target else u)) := by
  constructor
  · intro h
    rw [if_pos (hP.mpr h)]
    exact s.transferTo_wentTo target
  · intro h
    rwa [if_neg (mt hP.mp (hQ h))]

theorem State.branchIf_control (s : State) (target : Word) (hP : taken = true ↔ P) (hQ : Q → ¬P) :
    (P → s.wentTo (s.branchIf taken target) target) ∧ (Q → s.ranOn (s.branchIf taken target)) :=
  s.wentTo_or target ⟨rfl, rfl, rfl⟩ hP hQ

theorem State.branchLikelyIf_control (s : State) (target : Word) (hP : taken = true ↔ P) (hQ : Q → ¬P) :
    (P → s.wentTo (s.branchLikelyIf taken target) target) ∧
      (Q → s.skippedSlot (s.branchLikelyIf taken target)) :=
  s.wentTo_or target s.annulDelaySlot_skippedSlot hP hQ

end

/-! ## The guards of a control transfer (R289) -/

section
variable {s : State} {i : Instr} {rs rd : Reg} {k : Result}

theorem State.unlessInDelaySlot_of_not (h : s.inDelaySlot = false) : s.unlessInDelaySlot k = k := by
  simp [State.unlessInDelaySlot, h]

theorem State.unlessInDelaySlot_of_slot (h : s.inDelaySlot = true) :
    s.unlessInDelaySlot k = .refused .controlTransferInDelaySlot := by
  simp [State.unlessInDelaySlot, h]

/-- A link instruction outside a delay slot, with another operand than its link register, passes both guards. -/
theorem State.exec_eq_of_guards (hslot : s.inDelaySlot = false) (hne : rs ≠ rd)
    (h : exec i s = s.unlessInDelaySlot (unlessLinkHazard (rs == rd) k)) : exec i s = k := by
  rw [h, State.unlessInDelaySlot_of_not hslot, unlessLinkHazard, beq_eq_false_iff_ne.mpr hne]
  rfl

end

/-! ## Branches -/

section
variable {s : State} {i : Instr} {taken : Bool} {P Q : Prop} {off : Imm16}

theorem State.branches_of_branchIf (hslot : s.inDelaySlot = false)
    (h : exec i s = s.unlessInDelaySlot (.next (s.branchIf taken (s.branchTarget off)))) (hP : taken = true ↔ P) :
    s.branches i P off := by
  rw [State.unlessInDelaySlot_of_not hslot, s.branchTarget_eq_offsetAddress] at h
  exact ⟨_, h, s.branchIf_sameButControl _ _, s.branchIf_control _ hP id⟩

theorem State.branchesLikely_of_branchLikelyIf (hslot : s.inDelaySlot = false)
    (h : exec i s = s.unlessInDelaySlot (.next (s.branchLikelyIf taken (s.branchTarget off))))
    (hP : taken = true ↔ P) : s.branchesLikely i P off := by
  rw [State.unlessInDelaySlot_of_not hslot, s.branchTarget_eq_offsetAddress] at h
  exact ⟨_, h, s.branchLikelyIf_sameButControl _ _, s.branchLikelyIf_control _ hP id⟩

theorem State.links_of_branchIf
    (h : exec i s = .next ((s.setGpr linkRegister s.linkValue).branchIf taken (s.branchTarget off)))
    (hP : taken = true ↔ P) (hQ : Q → ¬P) :
    ∃ t, exec i s = .next t ∧ s.linked t 31#5 ∧ (P → s.wentTo t (s.offsetAddress off)) ∧ (Q → s.ranOn t) := by
  rw [s.branchTarget_eq_offsetAddress] at h
  exact ⟨_, h, (s.setGpr_linked 31#5).branchIf _ _, State.branchIf_control (s.setGpr _ _) _ hP hQ⟩

theorem State.links_of_branchLikelyIf
    (h : exec i s = .next ((s.setGpr linkRegister s.linkValue).branchLikelyIf taken (s.branchTarget off)))
    (hP : taken = true ↔ P) (hQ : Q → ¬P) :
    ∃ t, exec i s = .next t ∧ s.linked t 31#5 ∧ (P → s.wentTo t (s.offsetAddress off)) ∧ (Q → s.skippedSlot t) := by
  rw [s.branchTarget_eq_offsetAddress] at h
  exact ⟨_, h, (s.setGpr_linked 31#5).branchLikelyIf _ _, State.branchLikelyIf_control (s.setGpr _ _) _ hP hQ⟩

end

/-- Settles O33: each is a branch on the Boolean form of its condition. -/
theorem branches : Obligations.Branches := fun _ _ _ _ _ hslot =>
  ⟨State.branches_of_branchIf hslot rfl (Bool.not_eq_true' _).to_iff, State.branches_of_branchIf hslot rfl .rfl,
    State.branches_of_branchIf hslot rfl beq_iff_eq, State.branches_of_branchIf hslot rfl bne_iff_ne,
    State.branches_of_branchIf hslot rfl decide_eq_true_iff, State.branches_of_branchIf hslot rfl decide_eq_true_iff,
    State.branches_of_branchIf hslot rfl decide_eq_true_iff, State.branches_of_branchIf hslot rfl decide_eq_true_iff⟩

/-- Settles O34: each is a branch-likely on the Boolean form of its condition. -/
theorem branchesLikely : Obligations.BranchesLikely := fun _ _ _ _ _ hslot =>
  ⟨State.branchesLikely_of_branchLikelyIf hslot rfl (Bool.not_eq_true' _).to_iff,
    State.branchesLikely_of_branchLikelyIf hslot rfl .rfl,
    State.branchesLikely_of_branchLikelyIf hslot rfl beq_iff_eq,
    State.branchesLikely_of_branchLikelyIf hslot rfl bne_iff_ne,
    State.branchesLikely_of_branchLikelyIf hslot rfl decide_eq_true_iff,
    State.branchesLikely_of_branchLikelyIf hslot rfl decide_eq_true_iff,
    State.branchesLikely_of_branchLikelyIf hslot rfl decide_eq_true_iff,
    State.branchesLikely_of_branchLikelyIf hslot rfl decide_eq_true_iff⟩

/-- Settles O35: the link is written before the branch is decided, and the branch keeps it. -/
theorem linkBranches : Obligations.LinkBranches := fun _ _ _ hslot hne =>
  ⟨State.links_of_branchIf (State.exec_eq_of_guards hslot hne rfl) decide_eq_true_iff Int.not_le.mpr,
    State.links_of_branchIf (State.exec_eq_of_guards hslot hne rfl) decide_eq_true_iff Int.not_lt.mpr,
    State.links_of_branchLikelyIf (State.exec_eq_of_guards hslot hne rfl) decide_eq_true_iff Int.not_le.mpr,
    State.links_of_branchLikelyIf (State.exec_eq_of_guards hslot hne rfl) decide_eq_true_iff Int.not_lt.mpr⟩

/-! ## Jumps (R285 to R288) -/

/-- Settles O36: the target of `jr` and `jalr` is read in the state before the link. -/
theorem jumps : Obligations.Jumps := by
  intro s target rs rd hslot
  dsimp only
  rw [← s.jumpTarget_eq_ofNat]
  have hguard {k : Result} : s.unlessInDelaySlot k = k := State.unlessInDelaySlot_of_not hslot
  refine ⟨⟨_, hguard, s.transferTo_sameButControl _, s.transferTo_wentTo _⟩,
    ⟨_, hguard, (s.setGpr_linked 31#5).transferTo _, State.transferTo_wentTo _ _⟩,
    ⟨_, hguard, s.transferTo_sameButControl _, s.transferTo_wentTo _⟩, fun hne => ?_⟩
  exact ⟨_, State.exec_eq_of_guards hslot hne rfl, (s.setGpr_linked rd).transferTo _, State.transferTo_wentTo _ _⟩

/-! ## What is refused by name (R289, R338, R350, R401) -/

section
variable {i : Instr}

/-- Every control transfer begins with the guards of R289. -/
theorem exec_of_transfersControl (s : State) (h : transfersControl i = true) :
    ∃ k, exec i s = s.unlessInDelaySlot (unlessLinkHazard (linkHazard i) k) := by
  cases i with
  | bc1f | bc1t | beq | bgez | bgezal | bgtz | blez | bltzal | bltz | bne
  | bc1fl | bc1tl | beql | bgezl | bgezall | bgtzl | blezl | bltzall | bltzl | bnel
  | j | jal | jalr | jr | eret => exact ⟨_, rfl⟩
  | _ => exact (Bool.false_ne_true h).elim

/-- Every instruction with double operands begins with the guard of R401 on all of them. -/
theorem exec_of_doubleOperands (s : State) (h : doubleOperands i ≠ []) :
    ∃ ok k, exec i s = whenEven ok k ∧ ok = (doubleOperands i).all evenFpr := by
  cases i with
  | ldc1 | sdc1 | cvtDS | cvtDW | cvtSD | cvtWD | ceilWD | floorWD | roundWD | truncWD
  | absD | negD | sqrtD | movD | movfD | movtD | movnD | movzD | cEqD | cLeD | cLtD
  | addD | subD | mulD | divD => exact ⟨_, _, rfl, by simp [doubleOperands, Bool.and_assoc]⟩
  | _ => exact (h rfl).elim

theorem all_evenFpr_eq_not_hasOddDouble (i : Instr) : (doubleOperands i).all evenFpr = !hasOddDouble i :=
  List.not_any_eq_all_not.symm

end

/-- Settles O37, from the guards that the instructions begin with. -/
theorem namedRefusals : Obligations.NamedRefusals := by
  intro s i
  refine ⟨fun htransfer hslot => ?_, fun hhazard hslot => ?_, fun hodd => ?_⟩
  · obtain ⟨k, hexec⟩ := exec_of_transfersControl s htransfer
    rw [hexec, State.unlessInDelaySlot_of_slot hslot]
  · obtain ⟨k, hexec⟩ := exec_of_transfersControl s (transfersControl_of_linkHazard hhazard)
    rw [hexec, State.unlessInDelaySlot_of_not hslot, hhazard]
    rfl
  · have hdouble : doubleOperands i ≠ [] := fun hnil => by simp [hasOddDouble_eq_false hnil] at hodd
    obtain ⟨ok, k, hexec, hok⟩ := exec_of_doubleOperands s hdouble
    rw [hexec, hok, all_evenFpr_eq_not_hasOddDouble, hodd]
    rfl

end Sys2Proof.Machine

/-!
PROOFS. The statement of the trap chapter (R310 to R322). All twelve instructions end in the same shared operation, so
there is one rule for it; an instruction adds its comparison, and the immediate forms the number of their immediate.
-/

namespace Sys2Proof.Machine

/-- The common behaviour of R310, from the Boolean form of the condition. -/
theorem State.trapsIf_of_trapIf {s : State} {i : Instr} {c : Bool} {P : Prop} (h : exec i s = s.trapIf c)
    (hP : c = true ↔ P) : s.trapsIf i P := by
  rw [s.trapIf_eq] at h
  constructor
  · intro hholds
    exact State.traps_of_raise (e := .trap) (h.trans (if_pos (hP.mpr hholds)))
  · intro hfails
    exact ⟨_, h.trans (if_neg (mt hP.mp hfails)), s.advance_onlyWentOn⟩

/-! ## Comparisons with the sign-extended immediate (R110) -/

section
variable (v : Word) (imm : Imm16)

theorem eq_signImm_iff : v = signImm imm ↔ v.toInt = imm.toInt := by
  rw [← toInt_signImm, BitVec.toInt_inj]

theorem signImm_toInt_le_iff : (signImm imm).toInt ≤ v.toInt ↔ imm.toInt ≤ v.toInt := by
  rw [toInt_signImm]

theorem toInt_lt_signImm_iff : v.toInt < (signImm imm).toInt ↔ v.toInt < imm.toInt := by
  rw [toInt_signImm]

theorem signImm_toNat_le_iff : (signImm imm).toNat ≤ v.toNat ↔ imm.toInt % 2 ^ 32 ≤ (v.toNat : Int) := by
  rw [← toNat_signImm, Int.ofNat_le]

theorem toNat_lt_signImm_iff : v.toNat < (signImm imm).toNat ↔ (v.toNat : Int) < imm.toInt % 2 ^ 32 := by
  rw [← toNat_signImm, Int.ofNat_lt]

end

/-- Settles O38: each is the shared trap on the Boolean form of its comparison. -/
theorem traps : Obligations.Traps := by
  intro s rs rt imm
  exact
    ⟨State.trapsIf_of_trapIf rfl beq_iff_eq,
      State.trapsIf_of_trapIf rfl (beq_iff_eq.trans (eq_signImm_iff _ imm)),
      State.trapsIf_of_trapIf rfl bne_iff_ne,
      State.trapsIf_of_trapIf rfl (bne_iff_ne.trans (eq_signImm_iff _ imm).not),
      State.trapsIf_of_trapIf rfl decide_eq_true_iff,
      State.trapsIf_of_trapIf rfl decide_eq_true_iff,
      State.trapsIf_of_trapIf rfl (decide_eq_true_iff.trans (signImm_toInt_le_iff _ imm)),
      State.trapsIf_of_trapIf rfl (decide_eq_true_iff.trans (signImm_toNat_le_iff _ imm)),
      State.trapsIf_of_trapIf rfl decide_eq_true_iff,
      State.trapsIf_of_trapIf rfl decide_eq_true_iff,
      State.trapsIf_of_trapIf rfl (decide_eq_true_iff.trans (toInt_lt_signImm_iff _ imm)),
      State.trapsIf_of_trapIf rfl (decide_eq_true_iff.trans (toNat_lt_signImm_iff _ imm))⟩

end Sys2Proof.Machine

/-!
PROOFS. The statements of the load and store chapter (R330 to R356). An access that the map allows delivers the value of
its bytes, or leaves them, so a load or store is settled by what it does with that value. The unaligned pairs rest on one
fact about addresses: at the two ends of four bytes, `lwl` and `swl` reach the bytes of greatest weight and `lwr` and
`swr` the others, in either byte order.
-/

namespace Sys2Proof.Machine

/-! ## The accesses that the map allows (R66, R67, R78) -/

section
variable {s : State} {a : Word} {n : Nat}

theorem State.memRead_allowed (halign : a.toNat % n = 0) (hallow : s.allows .read a n) :
    s.memRead a n = .ok (s.assembled a n) := by
  obtain ⟨ha, -⟩ | ⟨-, -, hr⟩ | ⟨-, hm, -⟩ := s.memRead_cases a n
  · exact absurd halign ha
  · rw [hr, s.readValue_eq_assembled]
  · exact absurd hallow (by simp [State.allows, hm])

theorem State.memStore_allowed (v : Nat) (hallow : s.allows .write a n) :
    s.memStore a n v = .ok (s.writeValue a n v) := by
  obtain ⟨-, hr⟩ | ⟨hm, -⟩ := s.memStore_cases a n v
  · exact hr
  · exact absurd hallow (by simp [State.allows, hm])

theorem State.memWrite_allowed (v : Nat) (halign : a.toNat % n = 0) (hallow : s.allows .write a n) :
    s.memWrite a n v = .ok (s.writeValue a n v) := by
  obtain ⟨ha, -⟩ | ⟨-, -, hr⟩ | ⟨-, hm, -⟩ := s.memWrite_cases a n v
  · exact absurd halign ha
  · exact hr
  · exact absurd hallow (by simp [State.allows, hm])

theorem State.afterRead_of_allowed (k : Nat → Result) (halign : a.toNat % n = 0) (hallow : s.allows .read a n) :
    s.afterRead (s.memRead a n) k = k (s.assembled a n) := by
  rw [State.memRead_allowed halign hallow, State.afterRead]

theorem State.afterMemStore_of_allowed {v : Nat} (k : State → Result) (hallow : s.allows .write a n) :
    s.afterWrite (s.memStore a n v) k = k (s.writeValue a n v) := by
  rw [State.memStore_allowed v hallow, State.afterWrite]

theorem State.afterMemWrite_of_allowed {v : Nat} (k : State → Result) (halign : a.toNat % n = 0)
    (hallow : s.allows .write a n) : s.afterWrite (s.memWrite a n v) k = k (s.writeValue a n v) := by
  rw [State.memWrite_allowed v halign hallow, State.afterWrite]

end

/-! ## Sums of bytes (R62) -/

theorem byteSum_lt (n : Nat) (f : Nat → Byte) : byteSum n f < 256 ^ n := by
  rw [← littleEndianValue_map_range]
  simpa using littleEndianValue_lt ((List.range n).map f)

theorem byteSum_congr {n : Nat} {f g : Nat → Byte} (h : ∀ i, i < n → f i = g i) : byteSum n f = byteSum n g := by
  induction n with
  | zero => rfl
  | succ n ih => rw [byteSum, byteSum, ih fun i hi => h i (by omega), h n (by omega)]

theorem byteSum_add (m n : Nat) (f : Nat → Byte) :
    byteSum (m + n) f = byteSum m f + 256 ^ m * byteSum n fun i => f (m + i) := by
  induction n with
  | zero => simp [byteSum]
  | succ n ih =>
    rw [← Nat.add_assoc, byteSum, ih, byteSum]
    ring

theorem byteSum_mod {m n : Nat} (f : Nat → Byte) (h : m ≤ n) : byteSum n f % 256 ^ m = byteSum m f := by
  obtain ⟨d, rfl⟩ := Nat.exists_eq_add_of_le h
  rw [byteSum_add, Nat.add_mul_mod_self_left, Nat.mod_eq_of_lt (byteSum_lt m f)]

theorem byteSum_div {m n : Nat} (f : Nat → Byte) (h : m ≤ n) :
    byteSum n f / 256 ^ m = byteSum (n - m) fun i => f (m + i) := by
  obtain ⟨d, rfl⟩ := Nat.exists_eq_add_of_le h
  rw [byteSum_add, Nat.add_mul_div_left _ _ (by positivity), Nat.div_eq_of_lt (byteSum_lt m f), Nat.zero_add,
    Nat.add_sub_cancel_left]

theorem State.assembled_lt (s : State) (a : Word) (n : Nat) : s.assembled a n < 256 ^ n := byteSum_lt n _

theorem State.toNat_ofNat_assembled (s : State) (a : Word) {n w : Nat} (hw : 256 ^ n ≤ 2 ^ w) :
    (BitVec.ofNat w (s.assembled a n)).toNat = s.assembled a n := by
  rw [BitVec.toNat_ofNat, Nat.mod_eq_of_lt ((s.assembled_lt a n).trans_le hw)]

/-! ## Loads (R332 to R338, R345) -/

theorem toInt_signExtended {w : Nat} (v : Nat) (hw : w ≤ 32) : (signExtended w v).toInt = (v : Int).bmod (2 ^ w) := by
  rw [signExtended, BitVec.toInt_signExtend_of_le hw, BitVec.toInt_ofNat']

theorem State.loads_of_loadGpr {s : State} {i : Instr} {rt : Reg} {a : Word} {n : Nat} {extend : Nat → Word}
    {P : Nat → Word → Prop} (h : exec i s = s.loadGpr rt a n extend)
    (hP : P (s.assembled a n) (extend (s.assembled a n))) : s.loads i rt a n P := fun halign hallow =>
  State.computes_of_putGpr (h.trans (State.afterRead_of_allowed _ halign hallow)) hP

/-- Settles O39: each writes the value of the bytes, extended. -/
theorem loads : Obligations.Loads := by
  intro s rt rs off
  dsimp only
  rw [← s.effectiveAddress_eq_operandAddress]
  refine ⟨State.loads_of_loadGpr rfl ?_, State.loads_of_loadGpr rfl (s.toNat_ofNat_assembled _ (by decide)),
    State.loads_of_loadGpr rfl ?_, State.loads_of_loadGpr rfl (s.toNat_ofNat_assembled _ (by decide)),
    State.loads_of_loadGpr rfl (s.toNat_ofNat_assembled _ (by decide))⟩
  · have hlt := s.assembled_lt (s.effectiveAddress rs off) 1
    rw [toInt_signExtended _ (by decide), Int.bmod_def]
    omega
  · have hlt := s.assembled_lt (s.effectiveAddress rs off) 2
    rw [toInt_signExtended _ (by decide), Int.bmod_def]
    omega

/-- Settles O40: each writes the value of the bytes to its register or its pair. -/
theorem fpLoads : Obligations.FpLoads := by
  intro s ft rs off
  dsimp only
  rw [← s.effectiveAddress_eq_operandAddress]
  refine ⟨fun halign hallow => ?_, fun heven halign hallow => ?_⟩
  · exact ⟨_, _, State.afterRead_of_allowed _ halign hallow, s.setFpr_wroteFpr _ _,
      s.toNat_ofNat_assembled _ (by decide)⟩
  · exact ⟨_, _, (exec_ldc1_of_even heven).trans (State.afterRead_of_allowed _ halign hallow),
      s.setDouble_wroteFprPair _ _, s.toNat_ofNat_assembled _ (by decide)⟩

/-- Settles O41: `ll` writes the word and the reservation. -/
theorem loadLinked : Obligations.LoadLinked := by
  intro s rt rs off
  dsimp only
  rw [← s.effectiveAddress_eq_operandAddress]
  intro halign hallow
  exact ⟨_, _, State.afterRead_of_allowed _ halign hallow, s.toNat_ofNat_assembled _ (by decide),
    fun r => s.getGpr_setGpr rt r _, rfl, rfl, ⟨rfl, rfl⟩, ⟨rfl, rfl, rfl, rfl⟩, fun _ => rfl, fun _ => rfl,
    fun _ => rfl, ⟨rfl, rfl⟩, rfl, ⟨rfl, rfl, rfl⟩⟩

/-! ## The bytes that a store leaves (R62, R67) -/

theorem littleEndianBytes_getElem (n v k : Nat) (h : k < (littleEndianBytes n v).length) :
    (littleEndianBytes n v)[k] = BitVec.ofNat 8 (v / 256 ^ k) := by
  induction n generalizing v k with
  | zero => simp [littleEndianBytes] at h
  | succ n ih =>
    cases k with
    | zero => simp [littleEndianBytes]
    | succ k => simp [littleEndianBytes, ih, Nat.div_div_eq_div_mul, Nat.pow_succ']

theorem natToBytes_getElem (be : Bool) (n v k : Nat) (h : k < (natToBytes be n v).length) :
    (natToBytes be n v)[k] = BitVec.ofNat 8 (v / 256 ^ (if be then n - 1 - k else k)) := by
  cases be with
  | false => exact littleEndianBytes_getElem n v k h
  | true => simp [natToBytes, littleEndianBytes_getElem]

/-- The bytes of a store are those of the value, and no other byte changes. -/
theorem State.writeValue_storedAt (s : State) (a : Word) {n : Nat} (v : Nat) (hwf : s.mem.wf = true)
    (hn : n ≤ 2 ^ 32) : s.storedAt (s.writeValue a n v) a n v := by
  refine ⟨fun k hk => ?_, fun b hb => s.readByte_writeValue_outside a b n v hwf hb⟩
  rw [State.readByte, State.writeValue_mem, Memory.read_writeBytes_inside _ _ _ _ hwf (by simpa using hk) (by simpa),
    natToBytes_getElem]

/-- What a store and going on leaves. -/
theorem State.writeValue_wroteMemory (s : State) (a : Word) {n : Nat} (v : Nat) (hwf : s.mem.wf = true)
    (hn : n ≤ 2 ^ 32) : s.wroteMemory (s.writeValue a n v).advance a n v :=
  ⟨s.writeValue_storedAt a v hwf hn,
    ⟨fun _ => rfl, ⟨rfl, rfl⟩, ⟨rfl, rfl, rfl, rfl⟩, fun _ => rfl, fun _ => rfl, ⟨rfl, rfl⟩, ⟨rfl, rfl⟩, rfl⟩,
    ⟨rfl, rfl, rfl⟩⟩

/-! ## Stores (R346 to R350, R356) -/

section
variable {s : State} {off : Imm16} {rt rs : Reg}

theorem State.stores_of_storeValue {i : Instr} {a : Word} {n v : Nat} (h : exec i s = s.storeValue a n v)
    (hwf : s.mem.wf = true) (hn : n ≤ 2 ^ 32) : s.stores i a n v := fun halign hallow =>
  ⟨_, h.trans (State.afterMemWrite_of_allowed _ halign hallow), s.writeValue_wroteMemory a v hwf hn⟩

/-- An aligned `sc` without a reservation stores nothing (R73, R356). -/
theorem exec_sc_of_unreserved (halign : (s.effectiveAddress rs off).toNat % 4 = 0)
    (hnever : s.params.scAlwaysSucceeds = false) (hnone : s.llBit = false) :
    exec (.sc rt off rs) s = .next ((s.setGpr rt 0#32).clearReservation).advance := by
  show execSc rt off rs s = _
  simp [execSc, halign, hnever, hnone]

/-- An aligned `sc` to another address than the reservation's is refused (R73, U17). -/
theorem exec_sc_of_mismatch (halign : (s.effectiveAddress rs off).toNat % 4 = 0)
    (hnever : s.params.scAlwaysSucceeds = false) (hreserved : s.llBit = true)
    (hother : s.effectiveAddress rs off ≠ s.llAddr) : exec (.sc rt off rs) s = .refused .scAddressMismatch := by
  show execSc rt off rs s = _
  simp [execSc, halign, hnever, hreserved, hother]

end

/-- Settles O43: each is a store of its register. -/
theorem stores : Obligations.Stores := by
  intro s rt rs ft off hwf
  dsimp only
  rw [← s.effectiveAddress_eq_operandAddress, ← toNat_joinWords]
  exact ⟨State.stores_of_storeValue rfl hwf (by decide), State.stores_of_storeValue rfl hwf (by decide),
    State.stores_of_storeValue rfl hwf (by decide), State.stores_of_storeValue rfl hwf (by decide),
    fun heven => State.stores_of_storeValue (exec_sdc1_of_even heven) hwf (by decide)⟩

/-- Settles O47, by the three ends of an aligned `sc`. -/
theorem storeConditional : Obligations.StoreConditional := by
  intro s rt rs off hwf
  dsimp only
  rw [← s.effectiveAddress_eq_operandAddress]
  intro halign
  refine ⟨fun hsucceeds hallow => ?_, fun hnever hnone => ?_, exec_sc_of_mismatch halign⟩
  · exact ⟨_, (exec_sc_of_reserved halign hsucceeds).trans (State.afterMemWrite_of_allowed _ halign hallow),
      s.writeValue_storedAt _ _ hwf (by decide), fun r => State.getGpr_setGpr _ rt r _, rfl, rfl, ⟨rfl, rfl⟩,
      ⟨rfl, rfl, rfl, rfl⟩, fun _ => rfl, fun _ => rfl, ⟨rfl, rfl⟩, rfl, ⟨rfl, rfl, rfl⟩⟩
  · exact ⟨_, exec_sc_of_unreserved halign hnever hnone, fun r => s.getGpr_setGpr rt r _,
      ⟨⟨rfl, rfl⟩, ⟨rfl, rfl, rfl, rfl⟩, fun _ => rfl, fun _ => rfl, ⟨hnone.symm, rfl⟩, fun _ => rfl, ⟨rfl, rfl⟩⟩, rfl,
      ⟨rfl, rfl, rfl⟩⟩

/-! ## Merging the bytes of a word into a register (R339, R340) -/

theorem toNat_lowBits {n : Nat} (hn : n ≤ 32) : (lowBits n).toNat = 2 ^ n - 1 := by
  have hle : 2 ^ n ≤ 2 ^ 32 := Nat.pow_le_pow_right (by decide) hn
  have hpos : 0 < 2 ^ n := by positivity
  rw [lowBits, BitVec.toNat_ofNat, Nat.mod_eq_of_lt (by omega)]

theorem toNat_and_lowBits (v : Word) {n : Nat} (hn : n ≤ 32) : (v &&& lowBits n).toNat = v.toNat % 2 ^ n := by
  rw [BitVec.toNat_and, toNat_lowBits hn, Nat.and_two_pow_sub_one_eq_mod]

theorem getLsbD_lowBits (n : Nat) {k : Nat} (hk : k < 32) : (lowBits n).getLsbD k = decide (k < n) := by
  rw [lowBits, BitVec.getLsbD_ofNat, decide_eq_true hk, Bool.true_and, Nat.testBit_two_pow_sub_one]

theorem and_not_lowBits_eq_shift (v : Word) (n : Nat) : v &&& ~~~lowBits n = v >>> n <<< n := by
  ext k hk
  have hlow : (lowBits n)[k] = decide (k < n) := getLsbD_lowBits n hk
  by_cases hkn : k < n
  · simp [hlow, hkn]
  · simp [hlow, hkn, Nat.add_sub_cancel' (Nat.le_of_not_lt hkn), BitVec.getLsbD_eq_getElem hk]

theorem toNat_and_not_lowBits (v : Word) (n : Nat) : (v &&& ~~~lowBits n).toNat = v.toNat / 2 ^ n * 2 ^ n := by
  rw [and_not_lowBits_eq_shift, toNat_shiftLeft_eq_mul, toNat_ushiftRight_eq_div,
    Nat.mod_eq_of_lt ((Nat.div_mul_le_self ..).trans_lt v.isLt)]

/-- A word shifted left by `k` bytes keeps its low `4 - k` bytes. -/
theorem mul_pow_mod_word (w : Nat) {k : Nat} (hk : k ≤ 4) :
    w * 256 ^ k % 2 ^ 32 = w % 256 ^ (4 - k) * 256 ^ k := by
  have hword : 2 ^ 32 = 256 ^ (4 - k) * 256 ^ k := by rw [← Nat.pow_add, Nat.sub_add_cancel hk]; rfl
  rw [hword, Nat.mul_mod_mul_right]

theorem two_pow_eight_mul (n : Nat) : 2 ^ (8 * n) = 256 ^ n := Nat.pow_mul 2 8 n

theorem toNat_mergeLeft (w old : Word) {k : Nat} (hk : k ≤ 4) :
    (mergeLeft k w old).toNat = w.toNat * 256 ^ k % 2 ^ 32 + old.toNat % 256 ^ k := by
  rw [mergeLeft, BitVec.toNat_or, toNat_shiftLeft_eq_mul, toNat_and_lowBits _ (by omega), two_pow_eight_mul,
    mul_pow_mod_word _ hk, ← two_pow_eight_mul k, Nat.mul_comm _ (2 ^ (8 * k)),
    Nat.two_pow_add_eq_or_of_lt (Nat.mod_lt _ (by positivity))]

theorem toNat_mergeRight (w old : Word) {j : Nat} (hj : j ≤ 4) :
    (mergeRight j w old).toNat =
      old.toNat / 256 ^ (4 - j) * 256 ^ (4 - j) + w.toNat / 256 ^ j := by
  have hword : 256 ^ j * 256 ^ (4 - j) = 2 ^ 32 := by rw [← Nat.pow_add, Nat.add_sub_cancel' hj]; rfl
  have hlow : w.toNat / 256 ^ j < 2 ^ (8 * (4 - j)) :=
    Nat.div_lt_of_lt_mul (by rw [two_pow_eight_mul, hword]; exact w.isLt)
  rw [mergeRight, BitVec.toNat_or, toNat_and_not_lowBits, toNat_ushiftRight_eq_div, two_pow_eight_mul j,
    Nat.mul_comm _ (2 ^ (8 * (4 - j))), ← Nat.two_pow_add_eq_or_of_lt hlow, two_pow_eight_mul, Nat.mul_comm]

/-! ## The aligned word of an address (R78, R339, R340) -/

theorem toNat_wordBase (a : Word) : (wordBase a).toNat = a.toNat / 4 * 4 := by
  rw [wordBase, BitVec.toNat_ofNat, Nat.mod_eq_of_lt ((Nat.div_mul_le_self ..).trans_lt a.isLt)]

theorem wordBase_aligned (a : Word) : (wordBase a).toNat % 4 = 0 := by
  rw [toNat_wordBase, Nat.mul_mod_left]

theorem wordBase_add_mod (a : Word) : wordBase a + BitVec.ofNat 32 (a.toNat % 4) = a := by
  rw [wordBase, ← BitVec.ofNat_add, Nat.div_add_mod', BitVec.ofNat_toNat, BitVec.setWidth_eq]

theorem State.leftKept_le (s : State) (a : Word) : s.leftKept a ≤ 3 := by
  unfold State.leftKept
  split <;> omega

theorem State.rightKept_le (s : State) (a : Word) : s.rightKept a ≤ 3 := by
  unfold State.rightKept
  split <;> omega

/-! ## The unaligned loads and stores (R339, R340, R351, R352) -/

section
variable {s : State} {off : Imm16} {rt rs : Reg} {a : Word}

theorem exec_lwl_of_allowed (ha : s.operandAddress rs off = a) (hallow : s.allows .read (wordBase a) 4) :
    exec (.lwl rt off rs) s =
      s.putGpr rt (mergeLeft (s.leftKept a) (BitVec.ofNat 32 (s.assembled (wordBase a) 4)) (s.getGpr rt)) := by
  subst ha
  rw [← s.effectiveAddress_eq_operandAddress, ← alignedWord_eq_wordBase] at *
  exact State.afterRead_of_allowed _ (by rw [alignedWord_eq_wordBase, wordBase_aligned]) hallow

theorem exec_lwr_of_allowed (ha : s.operandAddress rs off = a) (hallow : s.allows .read (wordBase a) 4) :
    exec (.lwr rt off rs) s =
      s.putGpr rt (mergeRight (s.rightKept a) (BitVec.ofNat 32 (s.assembled (wordBase a) 4)) (s.getGpr rt)) := by
  subst ha
  rw [← s.effectiveAddress_eq_operandAddress, ← alignedWord_eq_wordBase] at *
  exact State.afterRead_of_allowed _ (by rw [alignedWord_eq_wordBase, wordBase_aligned]) hallow

theorem exec_swl_of_allowed (ha : s.operandAddress rs off = a)
    (hallow : s.allows .write (if s.params.bigEndian then a else wordBase a) (4 - s.leftKept a)) :
    exec (.swl rt off rs) s =
      .next (s.writeValue (if s.params.bigEndian then a else wordBase a) (4 - s.leftKept a)
        ((s.getGpr rt).toNat / 256 ^ s.leftKept a)).advance := by
  rw [exec_swl, s.effectiveAddress_eq_operandAddress, ha, toNat_ushiftRight_eq_div, two_pow_eight_mul]
  exact State.afterMemStore_of_allowed _ hallow

theorem exec_swr_of_allowed (ha : s.operandAddress rs off = a)
    (hallow : s.allows .write (if s.params.bigEndian then wordBase a else a) (4 - s.rightKept a)) :
    exec (.swr rt off rs) s =
      .next (s.writeValue (if s.params.bigEndian then wordBase a else a) (4 - s.rightKept a)
        (s.getGpr rt).toNat).advance := by
  rw [exec_swr, s.effectiveAddress_eq_operandAddress, ha]
  exact State.afterMemStore_of_allowed _ hallow

end

/-- Settles O42: a shift by bytes and a mask are a product or quotient and a remainder. -/
theorem unalignedLoads : Obligations.UnalignedLoads := by
  intro s rt rs off
  dsimp only
  intro hallow
  have hk := s.leftKept_le (s.operandAddress rs off)
  have hj := s.rightKept_le (s.operandAddress rs off)
  refine ⟨State.computes_of_putGpr (exec_lwl_of_allowed rfl hallow) ?_,
    State.computes_of_putGpr (exec_lwr_of_allowed rfl hallow) ?_⟩
  · rw [toNat_mergeLeft _ _ (by omega), s.toNat_ofNat_assembled _ (by decide)]
  · rw [toNat_mergeRight _ _ (by omega), s.toNat_ofNat_assembled _ (by decide)]

/-- Settles O44: each is a store with no alignment check of the bytes named. -/
theorem unalignedStores : Obligations.UnalignedStores := fun s _ _ _ hwf =>
  ⟨fun hallow => ⟨_, exec_swl_of_allowed rfl hallow, s.writeValue_wroteMemory _ _ hwf (by omega)⟩,
    fun hallow => ⟨_, exec_swr_of_allowed rfl hallow, s.writeValue_wroteMemory _ _ hwf (by omega)⟩⟩

/-! ## The two ends of four bytes (R344, R355) -/

/-- The address of the byte of weight `256 ^ i` in an access of `n` bytes at `a` (R62). -/
def State.byteAddress (s : State) (a : Word) (n i : Nat) : Word :=
  a + BitVec.ofNat 32 (if s.params.bigEndian then n - 1 - i else i)

/-- The address of the byte of greatest weight among the four at `a`, which `lwl` and `swl` are given. -/
def State.leftEnd (s : State) (a : Word) : Word := if s.params.bigEndian then a else a + 3#32

/-- The address of the byte of weight 1 among the four at `a`, which `lwr` and `swr` are given. -/
def State.rightEnd (s : State) (a : Word) : Word := if s.params.bigEndian then a + 3#32 else a

theorem State.assembled_eq_byteSum (s : State) (a : Word) (n : Nat) :
    s.assembled a n = byteSum n fun i => s.readByte (s.byteAddress a n i) := rfl

theorem State.byteAddress_injective (s : State) (a : Word) {n i j : Nat} (hn : n ≤ 2 ^ 32) (hi : i < n) (hj : j < n)
    (h : s.byteAddress a n i = s.byteAddress a n j) : i = j := by
  have hoffset := congrArg BitVec.toNat ((BitVec.add_right_inj a).mp h)
  rw [BitVec.toNat_ofNat, BitVec.toNat_ofNat] at hoffset
  split at hoffset <;> omega

section
variable (s : State) (a : Word) {i : Nat}

theorem wordBase_add_of_le {n : Nat} (hn : a.toNat % 4 ≤ n) :
    wordBase a + BitVec.ofNat 32 n = a + BitVec.ofNat 32 (n - a.toNat % 4) := by
  obtain ⟨d, rfl⟩ := Nat.exists_eq_add_of_le hn
  rw [Nat.add_sub_cancel_left, BitVec.ofNat_add, ← BitVec.add_assoc, wordBase_add_mod]

/-- The first word boundary from `a` on. -/
theorem wordBase_add_three : wordBase (a + 3#32) = a + BitVec.ofNat 32 (3 - (a + 3#32).toNat % 4) := by
  apply BitVec.eq_of_toNat_eq
  rw [toNat_wordBase, BitVec.toNat_add, BitVec.toNat_add, BitVec.toNat_ofNat, BitVec.toNat_ofNat]
  omega

/-- The two instructions leave no byte out: `lwl` keeps none that `lwr` keeps too. -/
theorem State.leftKept_add_rightKept_le : s.leftKept (s.leftEnd a) + s.rightKept (s.rightEnd a) ≤ 4 := by
  have hboundary : 3 - (a + 3#32).toNat % 4 + a.toNat % 4 ≤ 4 := by
    rw [BitVec.toNat_add, BitVec.toNat_ofNat]
    omega
  unfold State.leftKept State.rightKept State.leftEnd State.rightEnd
  cases s.params.bigEndian with
  | false => exact hboundary
  | true => exact (Nat.add_comm _ _).trans_le hboundary

/-- The aligned word of the left end has the high bytes of the four in its low bytes. -/
theorem State.byteAddress_leftEnd (hi : i < 4 - s.leftKept (s.leftEnd a)) :
    s.byteAddress (wordBase (s.leftEnd a)) 4 i = s.byteAddress a 4 (s.leftKept (s.leftEnd a) + i) := by
  unfold State.byteAddress State.leftKept State.leftEnd at *
  cases hbe : s.params.bigEndian with
  | false =>
    show wordBase (a + 3#32) + BitVec.ofNat 32 i = a + BitVec.ofNat 32 (3 - (a + 3#32).toNat % 4 + i)
    rw [wordBase_add_three, BitVec.add_assoc, ← BitVec.ofNat_add]
  | true =>
    have hi : i < 4 - a.toNat % 4 := by simpa [hbe] using hi
    show wordBase a + BitVec.ofNat 32 (3 - i) = a + BitVec.ofNat 32 (3 - (a.toNat % 4 + i))
    rw [wordBase_add_of_le a (by omega), Nat.sub_sub, Nat.add_comm]

/-- The aligned word of the right end has the low bytes of the four in its high bytes. -/
theorem State.byteAddress_rightEnd (hi : i < 4 - s.rightKept (s.rightEnd a)) :
    s.byteAddress (wordBase (s.rightEnd a)) 4 (s.rightKept (s.rightEnd a) + i) = s.byteAddress a 4 i := by
  unfold State.byteAddress State.rightKept State.rightEnd at *
  cases hbe : s.params.bigEndian with
  | false =>
    show wordBase a + BitVec.ofNat 32 (a.toNat % 4 + i) = a + BitVec.ofNat 32 i
    rw [wordBase_add_of_le a (Nat.le_add_right ..), Nat.add_sub_cancel_left]
  | true =>
    have hi : i < 4 - (3 - (a + 3#32).toNat % 4) := by simpa [hbe] using hi
    show wordBase (a + 3#32) + BitVec.ofNat 32 (3 - (3 - (a + 3#32).toNat % 4 + i)) = a + BitVec.ofNat 32 (3 - i)
    rw [wordBase_add_three, BitVec.add_assoc, ← BitVec.ofNat_add, ← Nat.sub_sub,
      Nat.sub_right_comm, Nat.add_sub_cancel' (by omega)]

/-- `swl` stores the low bytes of the aligned word. -/
theorem State.byteAddress_swl (hi : i < 4 - s.leftKept a) :
    s.byteAddress (if s.params.bigEndian then a else wordBase a) (4 - s.leftKept a) i =
      s.byteAddress (wordBase a) 4 i := by
  unfold State.byteAddress State.leftKept at *
  cases hbe : s.params.bigEndian with
  | false => rfl
  | true =>
    have hi : i < 4 - a.toNat % 4 := by simpa [hbe] using hi
    show a + BitVec.ofNat 32 (4 - a.toNat % 4 - 1 - i) = wordBase a + BitVec.ofNat 32 (3 - i)
    rw [wordBase_add_of_le a (by omega)]
    congr 2
    omega

/-- `swr` stores the high bytes of the aligned word. -/
theorem State.byteAddress_swr (i : Nat) :
    s.byteAddress (if s.params.bigEndian then wordBase a else a) (4 - s.rightKept a) i =
      s.byteAddress (wordBase a) 4 (s.rightKept a + i) := by
  unfold State.byteAddress State.rightKept
  cases s.params.bigEndian with
  | false =>
    show a + BitVec.ofNat 32 i = wordBase a + BitVec.ofNat 32 (a.toNat % 4 + i)
    rw [wordBase_add_of_le a (Nat.le_add_right ..), Nat.add_sub_cancel_left]
  | true =>
    show wordBase a + BitVec.ofNat 32 (4 - (3 - a.toNat % 4) - 1 - i) =
      wordBase a + BitVec.ofNat 32 (3 - (3 - a.toNat % 4 + i))
    congr 2
    omega

end

/-! ## The word at any address (R344) -/

section
variable (s : State) (a : Word)

theorem State.assembled_leftEnd :
    s.assembled (wordBase (s.leftEnd a)) 4 % 256 ^ (4 - s.leftKept (s.leftEnd a)) =
      s.assembled a 4 / 256 ^ s.leftKept (s.leftEnd a) := by
  have hk := s.leftKept_le (s.leftEnd a)
  simp only [State.assembled_eq_byteSum]
  rw [byteSum_mod _ (by omega), byteSum_div _ (by omega)]
  exact byteSum_congr fun i hi => congrArg s.readByte (s.byteAddress_leftEnd a hi)

theorem State.assembled_rightEnd :
    s.assembled (wordBase (s.rightEnd a)) 4 / 256 ^ s.rightKept (s.rightEnd a) =
      s.assembled a 4 % 256 ^ (4 - s.rightKept (s.rightEnd a)) := by
  have hj := s.rightKept_le (s.rightEnd a)
  simp only [State.assembled_eq_byteSum]
  rw [byteSum_mod _ (by omega), byteSum_div _ (by omega)]
  exact byteSum_congr fun i hi => congrArg s.readByte (s.byteAddress_rightEnd a hi)

/-- The register after `lwl` at the left end of the four bytes at `a`. -/
def State.leftLoaded (old : Word) : Word :=
  mergeLeft (s.leftKept (s.leftEnd a)) (BitVec.ofNat 32 (s.assembled (wordBase (s.leftEnd a)) 4)) old

/-- The register after `lwr` at the right end of the four bytes at `a`. -/
def State.rightLoaded (old : Word) : Word :=
  mergeRight (s.rightKept (s.rightEnd a)) (BitVec.ofNat 32 (s.assembled (wordBase (s.rightEnd a)) 4)) old

/-- From the byte `k` on, the register holds the bytes of the four after `lwl`. -/
theorem State.toNat_leftLoaded_div (old : Word) :
    (s.leftLoaded a old).toNat / 256 ^ s.leftKept (s.leftEnd a) =
      s.assembled a 4 / 256 ^ s.leftKept (s.leftEnd a) := by
  have hk := s.leftKept_le (s.leftEnd a)
  have hpos : 0 < 256 ^ s.leftKept (s.leftEnd a) := by positivity
  rw [State.leftLoaded, toNat_mergeLeft _ _ (by omega), s.toNat_ofNat_assembled _ (by decide),
    mul_pow_mod_word _ (by omega), s.assembled_leftEnd, Nat.mul_comm, Nat.mul_add_div hpos,
    Nat.div_eq_of_lt (Nat.mod_lt _ hpos), Nat.add_zero]

/-- `lwr` puts in the bytes that are still missing. -/
theorem State.rightLoaded_leftLoaded (old : Word) :
    s.rightLoaded a (s.leftLoaded a old) = BitVec.ofNat 32 (s.assembled a 4) := by
  have hkj := s.leftKept_add_rightKept_le a
  have hhigh : (s.leftLoaded a old).toNat / 256 ^ (4 - s.rightKept (s.rightEnd a)) =
      s.assembled a 4 / 256 ^ (4 - s.rightKept (s.rightEnd a)) := by
    rw [← Nat.add_sub_cancel' (Nat.le_sub_of_add_le hkj), Nat.pow_add, ← Nat.div_div_eq_div_mul,
      ← Nat.div_div_eq_div_mul, s.toNat_leftLoaded_div]
  apply BitVec.eq_of_toNat_eq
  rw [State.rightLoaded, toNat_mergeRight _ _ (by omega), s.toNat_ofNat_assembled _ (by decide),
    s.toNat_ofNat_assembled _ (by decide), s.assembled_rightEnd, hhigh, Nat.div_add_mod']

end

theorem State.setGpr_setGpr (s : State) (r : Reg) (v w : Word) : (s.setGpr r v).setGpr r w = s.setGpr r w := by
  unfold State.setGpr
  by_cases hr : r = 0#5 <;> simp [hr]

/-- A register written twice holds what was written last. -/
theorem State.putGpr_of_setGpr (s : State) (r : Reg) (v w : Word) :
    (s.setGpr r v).advance.putGpr r w = .next (s.setGpr r w).advance.advance := by
  rw [← s.setGpr_setGpr r v w]
  rfl

section
variable {s : State} {r rs : Reg} {offLeft offRight : Imm16} {a : Word}

theorem State.operandAddress_setGpr (h : rs ≠ r ∨ r = 0#5) (v : Word) (off : Imm16) :
    (s.setGpr r v).operandAddress rs off = s.operandAddress rs off := by
  unfold State.operandAddress
  obtain hne | rfl := h
  · rw [s.getGpr_setGpr_other r rs v hne]
  · rw [State.setGpr_zero]

/-- `lwl` and `lwr` at the two ends of the four bytes at `a` write their word, at any address (R344). -/
theorem execAll_lwl_lwr (is : List Instr) (hleft : s.operandAddress rs offLeft = s.leftEnd a)
    (hright : s.operandAddress rs offRight = s.rightEnd a) (hallowLeft : s.allows .read (wordBase (s.leftEnd a)) 4)
    (hallowRight : s.allows .read (wordBase (s.rightEnd a)) 4) (hr : rs ≠ r ∨ r = 0#5) :
    execAll (.lwl r offLeft rs :: .lwr r offRight rs :: is) s =
      execAll is (s.setGpr r (BitVec.ofNat 32 (s.assembled a 4))).advance.advance := by
  have hlwr (v : Word) : exec (.lwr r offRight rs) (s.setGpr r v).advance =
      (s.setGpr r v).advance.putGpr r (s.rightLoaded a ((s.setGpr r v).getGpr r)) :=
    exec_lwr_of_allowed ((State.operandAddress_setGpr hr v offRight).trans hright) hallowRight
  have hlwl : exec (.lwl r offLeft rs) s = s.putGpr r (s.leftLoaded a (s.getGpr r)) :=
    exec_lwl_of_allowed hleft hallowLeft
  rw [execAll_cons_of_next hlwl, execAll_cons_of_next ((hlwr _).trans ?_)]
  by_cases hzero : r = 0#5
  · simp only [hzero, State.putGpr, State.setGpr_zero]
  · rw [s.getGpr_setGpr_self r _ hzero, s.rightLoaded_leftLoaded, s.putGpr_of_setGpr]

end

/-- Settles O48: the pair writes the word, and `addu` with register 0 copies it. -/
theorem unalignedWordLoad : Obligations.UnalignedWordLoad := by
  intro s rt rs offLeft offRight a hleft hright hallow hallowEnd
  have hallowLeft : s.allows .read (wordBase (s.leftEnd a)) 4 := by
    unfold State.leftEnd
    split <;> assumption
  have hallowRight : s.allows .read (wordBase (s.rightEnd a)) 4 := by
    unfold State.rightEnd
    split <;> assumption
  refine ⟨fun hrt => ?_, fun hrs => ?_⟩
  · exact ⟨_, _, execAll_lwl_lwr [] hleft hright hallowLeft hallowRight (hrt.imp_left Ne.symm),
      s.toNat_ofNat_assembled a (by decide), fun r => s.getGpr_setGpr rt r _,
      ⟨⟨rfl, rfl⟩, ⟨rfl, rfl, rfl, rfl⟩, fun _ => rfl, fun _ => rfl, ⟨rfl, rfl⟩, fun _ => rfl, ⟨rfl, rfl⟩⟩, rfl⟩
  · have hcopy (w : Word) : exec (.addu rt 0#5 1#5) (s.setGpr 1#5 w).advance.advance =
        (s.setGpr 1#5 w).advance.advance.putGpr rt w :=
      congrArg (State.putGpr _ rt) ((BitVec.zero_add _).trans (s.getGpr_setGpr_self 1#5 w (by decide)))
    refine ⟨_, _, (execAll_lwl_lwr [.addu rt 0#5 1#5] hleft hright hallowLeft hallowRight (.inl hrs)).trans
      (execAll_cons_of_next (hcopy _)), s.toNat_ofNat_assembled a (by decide), fun r => ?_,
      ⟨⟨rfl, rfl⟩, ⟨rfl, rfl, rfl, rfl⟩, fun _ => rfl, fun _ => rfl, ⟨rfl, rfl⟩, fun _ => rfl, ⟨rfl, rfl⟩⟩, rfl⟩
    simp only [State.advance_getGpr, State.getGpr_setGpr, or_and_right, ite_or]

/-! ## Storing a word at any address (R355) -/

/-- Memory changes to the `n` low bytes of `v` at the addresses `addr 0`, `addr 1` and so on, least significant byte
first, and in no other byte. -/
def State.storesBytes (s t : State) (addr : Nat → Word) (n v : Nat) : Prop :=
  (∀ i, i < n → t.readByte (addr i) = BitVec.ofNat 8 (v / 256 ^ i)) ∧
    ∀ b, (∀ i, i < n → b ≠ addr i) → t.readByte b = s.readByte b

/-- The byte at position `k` has weight `256 ^ (n - 1 - k)` in the big-endian order, and conversely. -/
theorem forall_position_iff_weight (n : Nat) (P : Nat → Nat → Prop) :
    (∀ k, k < n → P k (n - 1 - k)) ↔ ∀ i, i < n → P (n - 1 - i) i := by
  have hback (k : Nat) (hk : k < n) : n - 1 - (n - 1 - k) = k := by omega
  refine ⟨fun h i hi => ?_, fun h k hk => ?_⟩
  · simpa [hback i hi] using h (n - 1 - i) (by omega)
  · simpa [hback k hk] using h (n - 1 - k) (by omega)

theorem State.storedAt_iff (s t : State) (a : Word) (n v : Nat) :
    s.storedAt t a n v ↔ s.storesBytes t (s.byteAddress a n) n v := by
  unfold State.storedAt State.storesBytes State.byteAddress
  cases s.params.bigEndian with
  | false => exact .rfl
  | true =>
    refine and_congr (forall_position_iff_weight n fun k i =>
      t.readByte (a + BitVec.ofNat 32 k) = BitVec.ofNat 8 (v / 256 ^ i)) ?_
    exact forall_congr' fun b => imp_congr_left (forall_position_iff_weight n fun k _ => b ≠ a + BitVec.ofNat 32 k)

section
variable {s u t : State} {addr : Nat → Word} {k m n v : Nat}

theorem State.storesBytes.congr {addr' : Nat → Word} (h : s.storesBytes t addr n v)
    (heq : ∀ i, i < n → addr i = addr' i) : s.storesBytes t addr' n v := by
  obtain ⟨hinside, houtside⟩ := h
  exact ⟨fun i hi => heq i hi ▸ hinside i hi, fun b hb => houtside b fun i hi => heq i hi ▸ hb i hi⟩

/-- The bytes from the byte `k` on, and then the low `m` bytes, are all `n` bytes if no byte is left out. -/
theorem State.storesBytes.overlay (hhigh : s.storesBytes u (fun i => addr (k + i)) (n - k) (v / 256 ^ k))
    (hlow : u.storesBytes t addr m v) (hkm : k ≤ m) (hmn : m ≤ n)
    (hinj : ∀ i j, i < n → j < n → addr i = addr j → i = j) : s.storesBytes t addr n v := by
  obtain ⟨hhighInside, hhighOutside⟩ := hhigh
  obtain ⟨hlowInside, hlowOutside⟩ := hlow
  refine ⟨fun i hi => ?_, fun b hb => ?_⟩
  · by_cases him : i < m
    · exact hlowInside i him
    · have hkept : t.readByte (addr i) = u.readByte (addr i) := hlowOutside _ fun j hj h =>
        him (hinj i j hi (hj.trans_le hmn) h ▸ hj)
      obtain ⟨d, rfl⟩ := Nat.exists_eq_add_of_le (show k ≤ i by omega)
      rw [hkept, hhighInside d (by omega), Nat.div_div_eq_div_mul, ← Nat.pow_add]
  · rw [hlowOutside b fun i hi => hb i (by omega), hhighOutside b fun i hi => hb (k + i) (by omega)]

end

section
variable (s : State) (a : Word) (v : Nat)

theorem State.storesBytes_writeValue {n : Nat} (hwf : s.mem.wf = true) (hn : n ≤ 2 ^ 32) :
    s.storesBytes (s.writeValue a n v).advance (s.byteAddress a n) n v :=
  (s.storedAt_iff (s.writeValue a n v).advance a n v).mp (s.writeValue_storedAt a v hwf hn)

/-- `swl` at the left end of the four bytes at `a` stores the bytes from the byte `k` on. -/
theorem State.storesBytes_swl (hwf : s.mem.wf = true) :
    s.storesBytes
      (s.writeValue (if s.params.bigEndian then s.leftEnd a else wordBase (s.leftEnd a))
        (4 - s.leftKept (s.leftEnd a)) v).advance
      (fun i => s.byteAddress a 4 (s.leftKept (s.leftEnd a) + i)) (4 - s.leftKept (s.leftEnd a)) v :=
  (s.storesBytes_writeValue _ v hwf (by omega)).congr fun _ hi =>
    (s.byteAddress_swl _ hi).trans (s.byteAddress_leftEnd a hi)

/-- `swr` at the right end of the four bytes at `a` stores the low bytes. -/
theorem State.storesBytes_swr (hwf : s.mem.wf = true) :
    s.storesBytes
      (s.writeValue (if s.params.bigEndian then wordBase (s.rightEnd a) else s.rightEnd a)
        (4 - s.rightKept (s.rightEnd a)) v).advance
      (s.byteAddress a 4) (4 - s.rightKept (s.rightEnd a)) v :=
  (s.storesBytes_writeValue _ v hwf (by omega)).congr fun i hi =>
    (s.byteAddress_swr _ i).trans (s.byteAddress_rightEnd a hi)

end

/-- Settles O49: `swl` stores the bytes of the word from the byte `k` on, and `swr` then the low ones. -/
theorem unalignedWordStore : Obligations.UnalignedWordStore := by
  intro s rt rs offLeft offRight a hwf
  dsimp only
  intro hleft hright hallowLeft hallowRight
  have hkj := s.leftKept_add_rightKept_le a
  have hswl := exec_swl_of_allowed (rt := rt) (a := s.leftEnd a) hleft hallowLeft
  have hswr (w : Word) (n v : Nat) := exec_swr_of_allowed (s := (s.writeValue w n v).advance) (rt := rt)
    (a := s.rightEnd a) hright hallowRight
  refine ⟨_, (execAll_cons_of_next hswl).trans (execAll_cons_of_next (hswr _ _ _)),
    (s.storedAt_iff _ a 4 _).mpr ?_,
    ⟨fun _ => rfl, ⟨rfl, rfl⟩, ⟨rfl, rfl, rfl, rfl⟩, fun _ => rfl, fun _ => rfl, ⟨rfl, rfl⟩, ⟨rfl, rfl⟩, rfl⟩⟩
  exact (s.storesBytes_swl a _ hwf).overlay (State.storesBytes_swr _ a _ (s.writeValue_wf _ _ _ hwf))
    (Nat.le_sub_of_add_le hkj) (Nat.sub_le ..) fun i j => s.byteAddress_injective a (by decide)

end Sys2Proof.Machine

/-!
PROOFS. The statements of the data movement chapter (R381 to R393). Each instruction ends in one shared operation: a
write of a general register or of `hi || lo`, a conditional move, or a read or write of coprocessor 0. There is one rule
for each of them; the words of the conditional moves are the encoder's, and the two masks of `Cause` are known by their
bits.
-/

namespace Sys2Proof.Machine

/-! ## `hi` and `lo` (R381 to R384) -/

/-- To write `hi || lo` is to write the two registers. -/
theorem State.putAcc_joinWords (s : State) (hi lo : Word) :
    s.putAcc (joinWords hi lo) = .next { s with hi := hi, lo := lo }.advance := by
  rw [State.putAcc, State.setAcc, highWord_joinWords, lowWord_joinWords]

/-- Settles O27: `mthi` and `mtlo` are the write of `hi || lo` that keeps one of its halves. -/
theorem hiLoMoves : Obligations.HiLoMoves := by
  intro s rd rs
  exact ⟨State.computes_of_putGpr rfl rfl, State.computes_of_putGpr rfl rfl,
    State.computesAcc_of_putAcc (s.putAcc_joinWords (s.getGpr rs) s.lo).symm
      ⟨highWord_joinWords _ _, lowWord_joinWords _ _⟩,
    State.computesAcc_of_putAcc (s.putAcc_joinWords s.hi (s.getGpr rs)).symm
      ⟨highWord_joinWords _ _, lowWord_joinWords _ _⟩⟩

/-! ## Conditional moves (R390 to R393) -/

section
variable (rd rs rt : Reg) (cc : CondFlag)

/-- A word of R390 to R393 with `rt` in bits 20:16, as the encoder makes it of its fields. -/
theorem moveWord_eq_rType (funct : BitVec 6) :
    BitVec.ofNat 32 (rs.toNat * 2 ^ 21 + rt.toNat * 2 ^ 16 + rd.toNat * 2 ^ 11 + funct.toNat) =
      rType 0x00#6 rs rt rd 0x00#5 funct := by
  rw [← BitVec.setWidth_eq (rType ..), ← BitVec.ofNat_toNat, toNat_rType]
  simp [Nat.add_assoc]

theorem toNat_ccAndSense (tf : BitVec 2) : (ccAndSense cc tf).toNat = cc.toNat * 4 + tf.toNat := by
  decide +revert

/-- The word of R392 or R393, whose field in bits 20:16 is the flag number and the sense. -/
theorem flagMoveWord_eq_rType (tf : BitVec 2) :
    BitVec.ofNat 32 (rs.toNat * 2 ^ 21 + cc.toNat * 2 ^ 18 + tf.toNat * 2 ^ 16 + rd.toNat * 2 ^ 11 + 1) =
      rType 0x00#6 rs (ccAndSense cc tf) rd 0x00#5 0x01#6 := by
  have hfield : rs.toNat * 2 ^ 21 + cc.toNat * 2 ^ 18 + tf.toNat * 2 ^ 16 =
      rs.toNat * 2 ^ 21 + (ccAndSense cc tf).toNat * 2 ^ 16 := by
    rw [toNat_ccAndSense]
    ring
  rw [hfield]
  exact moveWord_eq_rType rd rs (ccAndSense cc tf) 0x01#6

theorem movfWord_eq_encode :
    BitVec.ofNat 32 (rs.toNat * 2 ^ 21 + cc.toNat * 2 ^ 18 + rd.toNat * 2 ^ 11 + 1) = encode (.movf rd rs cc) := by
  simpa [encode] using flagMoveWord_eq_rType rd rs cc 0#2

theorem movtWord_eq_encode :
    BitVec.ofNat 32 (rs.toNat * 2 ^ 21 + cc.toNat * 2 ^ 18 + 2 ^ 16 + rd.toNat * 2 ^ 11 + 1) =
      encode (.movt rd rs cc) := by
  simpa [encode] using flagMoveWord_eq_rType rd rs cc 1#2

end

/-- The common behaviour of R390 to R393, from the Boolean form of the condition. -/
theorem State.movesIf_of_moveGprIf {s : State} {i : Instr} {c : Bool} {P : Prop} {rd : Reg} {v : Word}
    (h : exec i s = s.moveGprIf c rd v) (hP : c = true ↔ P) : s.movesIf i P rd v := by
  unfold State.moveGprIf at h
  constructor
  · intro hholds
    obtain ⟨hnext, hwrote⟩ := s.putGpr_wroteGpr rd v
    exact ⟨_, (h.trans (if_pos (hP.mpr hholds))).trans hnext, hwrote⟩
  · intro hfails
    exact ⟨_, h.trans (if_neg (mt hP.mp hfails)), s.advance_onlyWentOn⟩

/-- Settles O30: the encoder writes the four words, and each is the shared move on the Boolean form of its condition. -/
theorem conditionalMoves : Obligations.ConditionalMoves := fun rd rs rt cc =>
  ⟨fun p => ⟨
      (congrArg (decode p) (moveWord_eq_rType rd rs rt 0x0b#6)).trans (decodeEncodeAgree p (.movn rd rs rt) rfl),
      (congrArg (decode p) (moveWord_eq_rType rd rs rt 0x0a#6)).trans (decodeEncodeAgree p (.movz rd rs rt) rfl),
      (congrArg (decode p) (movfWord_eq_encode rd rs cc)).trans (decodeEncodeAgree p (.movf rd rs cc) rfl),
      (congrArg (decode p) (movtWord_eq_encode rd rs cc)).trans (decodeEncodeAgree p (.movt rd rs cc) rfl)⟩, fun _ =>
    ⟨State.movesIf_of_moveGprIf rfl bne_iff_ne, State.movesIf_of_moveGprIf rfl beq_iff_eq,
      State.movesIf_of_moveGprIf rfl (iff_of_eq (Bool.not_eq_true' _)), State.movesIf_of_moveGprIf rfl Iff.rfl⟩⟩

/-! ## The bits of `Cause` (R30) -/

/-- The bits of a word are known from those below 32, where no other is set. -/
theorem getLsbD_eq_of_forall_lt {v : Word} {f : Nat → Bool} (hbits : ∀ k < 32, v.getLsbD k = f k)
    (hbound : ∀ k, 32 ≤ k → f k = false) (k : Nat) : v.getLsbD k = f k := by
  by_cases hk : k < 32
  · exact hbits k hk
  · rw [BitVec.getLsbD_of_ge v k (Nat.le_of_not_lt hk), hbound k (Nat.le_of_not_lt hk)]

theorem getLsbD_causeMask : ∀ k,
    causeMask.getLsbD k = decide (k = 31 ∨ (8 ≤ k ∧ k < 16) ∨ (2 ≤ k ∧ k < 7)) :=
  getLsbD_eq_of_forall_lt (by decide) (fun _ hk => decide_eq_false (by omega))

theorem getLsbD_causeWritable : ∀ k,
    causeWritable.getLsbD k = decide ((8 ≤ k ∧ k < 10) ∨ (2 ≤ k ∧ k < 7)) :=
  getLsbD_eq_of_forall_lt (by decide) (fun _ hk => decide_eq_false (by omega))

/-- Under a mask a bit is the new one or, outside it, the old one. -/
theorem getLsbD_and_not_or_and {w : Nat} (old v mask : BitVec w) (k : Nat) :
    (old &&& ~~~mask ||| v &&& mask).getLsbD k = if mask.getLsbD k = true then v.getLsbD k else old.getLsbD k := by
  have hbound := @BitVec.lt_of_getLsbD w old k
  cases hmask : mask.getLsbD k with
  | true => simp [hmask]
  | false => simpa [hmask] using hbound

theorem getLsbD_writeCause (old v : Word) (k : Nat) :
    (writeCause old v).getLsbD k = if (8 ≤ k ∧ k < 10) ∨ (2 ≤ k ∧ k < 7) then v.getLsbD k else old.getLsbD k := by
  simp only [writeCause, getLsbD_and_not_or_and, getLsbD_causeWritable, decide_eq_true_eq]

/-! ## Coprocessor 0 (R27 to R32, R385, R388) -/

section
variable {s t : State} {rt rd : Reg} {v : Word}

theorem exec_mfc0_of_some (h : s.readCop0 rd = some v) : exec (.mfc0 rt rd) s = s.putGpr rt v := by
  change execMfc0 rt rd s = _
  rw [execMfc0, h]

theorem exec_mfc0_of_absent (h : cop0Exists rd = false) :
    exec (.mfc0 rt rd) s = .refused (.cop0RegisterAbsent rd) := by
  change execMfc0 rt rd s = _
  rw [execMfc0, (s.readCop0_eq_none_iff rd).mpr h]

theorem exec_mtc0_of_some (h : s.writeCop0 rd (s.getGpr rt) = some t) : exec (.mtc0 rt rd) s = .next t.advance := by
  change execMtc0 rt rd s = _
  rw [execMtc0, h]

theorem exec_mtc0_of_absent (h : cop0Exists rd = false) :
    exec (.mtc0 rt rd) s = .refused (.cop0RegisterAbsent rd) := by
  change execMtc0 rt rd s = _
  rw [execMtc0, (s.writeCop0_eq_none_iff rd _).mpr h]

/-- Whatever register is written, only coprocessor 0 changes. -/
theorem State.advance_sameButCop0_of_writeCop0 (h : s.writeCop0 rd v = some t) :
    s.sameButCop0 t.advance ∧ s.goesOn t.advance := by
  unfold State.writeCop0 at h
  split at h <;> cases h
  all_goals exact
    ⟨⟨fun _ => rfl, ⟨rfl, rfl⟩, fun _ => rfl, fun _ => rfl, ⟨rfl, rfl⟩, fun _ => rfl, ⟨rfl, rfl⟩, rfl⟩, ⟨rfl, rfl, rfl⟩⟩

/-- `mtc0` of a register that exists: the property `P` is what is left to say of coprocessor 0. -/
theorem State.mtc0_writes {P : State → Prop} (h : s.writeCop0 rd (s.getGpr rt) = some t) (hP : P t.advance) :
    ∃ u, exec (.mtc0 rt rd) s = .next u ∧ s.sameButCop0 u ∧ s.goesOn u ∧ P u := by
  obtain ⟨hframe, hon⟩ := State.advance_sameButCop0_of_writeCop0 h
  exact ⟨_, exec_mtc0_of_some h, hframe, hon, hP⟩

end

/-- Settles O31: what is read is the register, of `Cause` under the mask of the bits that exist. -/
theorem cop0Reads : Obligations.Cop0Reads := by
  intro s rt
  refine ⟨State.computes_of_putGpr (exec_mfc0_of_some rfl) rfl, State.computes_of_putGpr (exec_mfc0_of_some rfl) rfl,
    State.computes_of_putGpr (exec_mfc0_of_some rfl) rfl,
    State.computes_of_putGpr (v := s.cause &&& causeMask) (exec_mfc0_of_some rfl) fun k => ?_,
    fun rd => exec_mfc0_of_absent⟩
  rw [BitVec.getLsbD_and, getLsbD_causeMask]

/-- Settles O32: a write changes the one register, `Cause` under the mask of the bits that `mtc0` writes. -/
theorem cop0Writes : Obligations.Cop0Writes := by
  intro s rt
  exact ⟨State.mtc0_writes rfl ⟨rfl, rfl, rfl, rfl⟩, State.mtc0_writes rfl ⟨rfl, rfl, rfl, rfl⟩,
    State.mtc0_writes rfl ⟨rfl, getLsbD_writeCause s.cause (s.getGpr rt), rfl, rfl⟩,
    ⟨_, exec_mtc0_of_some (rd := 8#5) rfl, s.advance_onlyWentOn⟩, fun _ => exec_mtc0_of_absent⟩

end Sys2Proof.Machine

/-!
PROOFS. The statements of the floating-point chapter (R400 to R457) that need no rounding to a format: moves, signs,
compares and the conversions to a word. Every instruction of the unit ends in a shared operation (a move, the delivery
of a result, the write of a flag), so there is one rule for each of them; what an instruction adds is a property of the
result, which `FpFormat.meets` says of the bits of a number and of every NaN alike.
-/

namespace Sys2Proof.Machine

/-! ## The operands in even registers (R401) -/

section
variable {fd fs ft : FReg}

theorem whenEven_pair_of_even (k : Result) (hfd : fd.getLsbD 0 = false) (hfs : fs.getLsbD 0 = false) :
    whenEven (evenFpr fd && evenFpr fs) k = k := by
  rw [whenEven, evenFpr, evenFpr, hfd, hfs]
  rfl

theorem whenEven_triple_of_even (k : Result) (hfd : fd.getLsbD 0 = false) (hfs : fs.getLsbD 0 = false)
    (hft : ft.getLsbD 0 = false) : whenEven (evenFpr fd && evenFpr fs && evenFpr ft) k = k := by
  rw [whenEven, evenFpr, evenFpr, evenFpr, hfd, hfs, hft]
  rfl

end

/-! ## Moves (R386, R389, R434 to R443) -/

section
variable {s : State} {i : Instr} {c : Bool} {P : Prop} {fd fs : FReg}

theorem State.movesSingleIf_of_moveSingleIf (h : exec i s = s.moveSingleIf c fd fs) (hP : c = true ↔ P) :
    s.movesSingleIf i P fd (s.getFpr fs) :=
  ⟨fun hholds => ⟨_, h.trans (if_pos (hP.mpr hholds)), s.setFpr_wroteFpr fd _⟩,
    fun hfails => ⟨_, h.trans (if_neg (mt hP.mp hfails)), s.advance_onlyWentOn⟩⟩

theorem State.movesDoubleIf_of_moveDoubleIf (h : exec i s = s.moveDoubleIf c fd fs) (hP : c = true ↔ P) :
    s.movesDoubleIf i P fd fs :=
  ⟨fun hholds => ⟨_, _, h.trans (if_pos (hP.mpr hholds)), s.setDouble_wroteFprPair fd _,
      lowWord_joinWords _ _, highWord_joinWords _ _⟩,
    fun hfails => ⟨_, h.trans (if_neg (mt hP.mp hfails)), s.advance_onlyWentOn⟩⟩

end

/-- Settles O50: every move is one of the shared moves on the Boolean form of its condition. -/
theorem fpMoves : Obligations.FpMoves := by
  intro s rt fd fs cc
  refine ⟨State.computes_of_putGpr rfl rfl, ⟨_, rfl, s.setFpr_wroteFpr fs _⟩, ⟨_, rfl, s.setFpr_wroteFpr fd _⟩,
    State.movesSingleIf_of_moveSingleIf rfl (iff_of_eq (Bool.not_eq_true' _)),
    State.movesSingleIf_of_moveSingleIf rfl Iff.rfl, State.movesSingleIf_of_moveSingleIf rfl bne_iff_ne,
    State.movesSingleIf_of_moveSingleIf rfl beq_iff_eq, fun hfd hfs => ?_⟩
  have heven : ∀ k, whenEven (evenFpr fd && evenFpr fs) k = k := fun k => whenEven_pair_of_even k hfd hfs
  exact ⟨State.movesDoubleIf_of_moveDoubleIf (c := true) (heven _) (iff_of_true rfl trivial),
    State.movesDoubleIf_of_moveDoubleIf (heven _) (iff_of_eq (Bool.not_eq_true' _)),
    State.movesDoubleIf_of_moveDoubleIf (heven _) Iff.rfl, State.movesDoubleIf_of_moveDoubleIf (heven _) bne_iff_ne,
    State.movesDoubleIf_of_moveDoubleIf (heven _) beq_iff_eq⟩

/-! ## Formats: sign, exponent field and fraction (R400) -/

/-- What every format of R400 has: a biased exponent above 0 and a last bit of its own. -/
def FpFormat.proper (f : FpFormat) : Prop := 2 ≤ f.expBits ∧ 1 ≤ f.fracBits

theorem singleFormat_proper : singleFormat.proper :=
  ⟨by decide, by decide⟩

theorem doubleFormat_proper : doubleFormat.proper :=
  ⟨by decide, by decide⟩

section
variable (f : FpFormat) (negative : Bool) {magnitude : Nat}

theorem FpFormat.infinity_add_fracUnit : f.infinity + 2 ^ f.fracBits = 2 ^ (f.expBits + f.fracBits) := by
  have hpos : 0 < 2 ^ f.expBits := Nat.two_pow_pos _
  rw [FpFormat.infinity, Nat.sub_one_mul, pow_add,
    Nat.sub_add_cancel (Nat.le_mul_of_pos_left _ hpos)]

theorem FpFormat.infinity_lt : f.infinity < 2 ^ (f.expBits + f.fracBits) := by
  have hpos : 0 < 2 ^ f.fracBits := Nat.two_pow_pos _
  have hsum := f.infinity_add_fracUnit
  omega

theorem FpFormat.withSign_eq (magnitude : Nat) :
    f.withSign negative magnitude = negative.toNat * 2 ^ (f.expBits + f.fracBits) + magnitude := by
  cases negative <;> simp [FpFormat.withSign]

theorem FpFormat.withSign_lt (h : magnitude < 2 ^ (f.expBits + f.fracBits)) :
    f.withSign negative magnitude < 2 ^ (f.expBits + f.fracBits + 1) := by
  have hsign := Bool.toNat_le negative
  rw [FpFormat.withSign_eq, pow_succ]
  nlinarith

theorem FpFormat.magnitude_withSign (h : magnitude < 2 ^ (f.expBits + f.fracBits)) :
    f.magnitude (f.withSign negative magnitude) = magnitude := by
  rw [FpFormat.magnitude, FpFormat.withSign_eq, Nat.mul_add_mod_self_right, Nat.mod_eq_of_lt h]

theorem FpFormat.isNegative_withSign (h : magnitude < 2 ^ (f.expBits + f.fracBits)) :
    f.isNegative (f.withSign negative magnitude) = negative := by
  rw [FpFormat.isNegative, FpFormat.withSign_eq, Nat.mul_comm, Nat.mul_add_div (Nat.two_pow_pos _),
    Nat.div_eq_of_lt h]
  cases negative <;> rfl

/-- The sign bit is above the last bit. -/
theorem FpFormat.withSign_mod_two (hf : f.proper) (magnitude : Nat) :
    f.withSign negative magnitude % 2 = magnitude % 2 := by
  obtain ⟨hexp, hfrac⟩ := hf
  obtain ⟨N, hN⟩ : ∃ N, f.expBits + f.fracBits = N + 1 := ⟨_, (Nat.succ_pred (by omega)).symm⟩
  rw [FpFormat.withSign_eq, hN, pow_succ, ← Nat.mul_assoc, Nat.mul_add_mod_self_right]

/-- What the bits say, from the sign and the bits below it. -/
theorem FpFormat.unpack_withSign (h : magnitude < 2 ^ (f.expBits + f.fracBits)) :
    f.unpack (f.withSign negative magnitude) =
      if magnitude / 2 ^ f.fracBits = 2 ^ f.expBits - 1 then
        (if magnitude % 2 ^ f.fracBits = 0 then .infinite negative else .nan)
      else if magnitude / 2 ^ f.fracBits = 0 then .finite negative (magnitude % 2 ^ f.fracBits) f.minExp
      else .finite negative (2 ^ f.fracBits + magnitude % 2 ^ f.fracBits)
        (f.minExp + (magnitude / 2 ^ f.fracBits : Nat) - 1) := by
  have hfield : f.withSign negative magnitude / 2 ^ f.fracBits % 2 ^ f.expBits = magnitude / 2 ^ f.fracBits := by
    have hlt : magnitude / 2 ^ f.fracBits < 2 ^ f.expBits := by
      rwa [Nat.div_lt_iff_lt_mul (Nat.two_pow_pos _), ← pow_add]
    rw [FpFormat.withSign_eq, pow_add, ← Nat.mul_assoc, Nat.mul_comm _ (2 ^ f.fracBits),
      Nat.mul_add_div (Nat.two_pow_pos _), Nat.mul_add_mod_self_right, Nat.mod_eq_of_lt hlt]
  have hfrac : f.withSign negative magnitude % 2 ^ f.fracBits = magnitude % 2 ^ f.fracBits := by
    rw [FpFormat.withSign_eq, pow_add, ← Nat.mul_assoc, Nat.mul_add_mod_self_right]
  simp only [FpFormat.unpack, f.isNegative_withSign negative h, hfield, hfrac]

theorem FpFormat.unpack_withSign_infinity : f.unpack (f.withSign negative f.infinity) = .infinite negative := by
  rw [f.unpack_withSign negative f.infinity_lt, FpFormat.infinity, Nat.mul_div_cancel _ (Nat.two_pow_pos _),
    Nat.mul_mod_left, if_pos rfl, if_pos rfl]

/-- A fraction that is not 0 under an exponent field of ones is a NaN, whatever the sign. -/
theorem FpFormat.isNan_withSign {frac : Nat} (hpos : 0 < frac) (hlt : frac < 2 ^ f.fracBits) :
    f.isNan (f.withSign negative (f.infinity + frac)) = true := by
  have hbound : f.infinity + frac < 2 ^ (f.expBits + f.fracBits) := by
    have hsum := f.infinity_add_fracUnit
    omega
  rw [FpFormat.isNan, f.unpack_withSign negative hbound, FpFormat.infinity, Nat.mul_comm,
    Nat.mul_add_div (Nat.two_pow_pos _), Nat.div_eq_of_lt hlt, Nat.mul_add_mod_self_left, Nat.mod_eq_of_lt hlt,
    if_pos (Nat.add_zero _), if_neg hpos.ne']
  rfl

/-- A finite operand is a multiple of the least unit of the format, below two times the fraction's unit. -/
theorem FpFormat.unpack_finite_bounds {f : FpFormat} {n m : Nat} {a : Bool} {e : Int}
    (h : f.unpack n = .finite a m e) : m < 2 ^ (f.fracBits + 1) ∧ f.minExp ≤ e := by
  have hfrac : n % 2 ^ f.fracBits < 2 ^ f.fracBits := Nat.mod_lt _ (Nat.two_pow_pos _)
  rw [pow_succ]
  simp only [FpFormat.unpack] at h
  split at h
  · split at h <;> cases h
  · split at h <;> cases h <;> constructor <;> omega

/-- A free NaN of the format is one, whatever its free bits. -/
theorem FpFormat.isNan_freeNan (hf : f.proper) (free : Nat) :
    f.isNan (BitVec.ofNat (f.expBits + f.fracBits + 1) (f.withSign negative
      (f.infinity + if free % 2 ^ f.fracBits = 0 then 1 else free % 2 ^ f.fracBits))).toNat = true := by
  obtain ⟨-, hfrac⟩ := hf
  have hunit : 1 < 2 ^ f.fracBits := Nat.one_lt_two_pow (by omega)
  have hmod : free % 2 ^ f.fracBits < 2 ^ f.fracBits := Nat.mod_lt _ (by omega)
  have hsum := f.infinity_add_fracUnit
  generalize hfield : (if free % 2 ^ f.fracBits = 0 then 1 else free % 2 ^ f.fracBits) = field
  have hpos : 0 < field := by split at hfield <;> omega
  have hlt : field < 2 ^ f.fracBits := by split at hfield <;> omega
  rw [BitVec.toNat_ofNat, Nat.mod_eq_of_lt (f.withSign_lt negative (by omega))]
  exact f.isNan_withSign negative hpos hlt

end

theorem isNan_freeSingleNan (free : DWord) : singleFormat.isNan (freeSingleNan free).toNat = true :=
  singleFormat.isNan_freeNan _ singleFormat_proper _

theorem isNan_freeDoubleNan (free : DWord) : doubleFormat.isNan (freeDoubleNan free).toNat = true :=
  doubleFormat.isNan_freeNan _ doubleFormat_proper _

/-! ## Results (R402, R404) -/

/-- Whatever bits an instruction delivers for the result, they have the property. -/
def FpFormat.meets (f : FpFormat) (r : FpResult) (P : Nat → Prop) : Prop :=
  match r with
  | .nan => ∀ n, f.isNan n = true → P n
  | .bits n => n < 2 ^ (f.expBits + f.fracBits + 1) ∧ P n

section
variable {s : State} {i : Instr} {fd : FReg} {r : FpResult} {P : Nat → Prop}

theorem State.computesSingle_of_putSingle (h : exec i s = s.putSingle fd r) (hr : singleFormat.meets r P) :
    s.computesSingle i fd fun w => P w.toNat := by
  obtain ⟨t, w, hput, hleft, ⟨n, rfl, rfl⟩ | ⟨rfl, rfl⟩⟩ := s.putSingle_left fd r
  · obtain ⟨hlt, hP⟩ := hr
    exact ⟨t, _, h.trans hput, hleft, by show P (n % 2 ^ 32); rwa [Nat.mod_eq_of_lt (show n < 2 ^ 32 from hlt)]⟩
  · exact ⟨t, _, h.trans hput, hleft, hr _ (isNan_freeSingleNan _)⟩

theorem State.computesDouble_of_putDouble (h : exec i s = s.putDouble fd r) (hr : doubleFormat.meets r P) :
    s.computesDouble i fd fun v => P v.toNat := by
  obtain ⟨t, v, hput, hleft, ⟨n, rfl, rfl⟩ | ⟨rfl, rfl⟩⟩ := s.putDouble_left fd r
  · obtain ⟨hlt, hP⟩ := hr
    exact ⟨t, _, h.trans hput, hleft, by show P (n % 2 ^ 64); rwa [Nat.mod_eq_of_lt (show n < 2 ^ 64 from hlt)]⟩
  · exact ⟨t, _, h.trans hput, hleft, hr _ (isNan_freeDoubleNan _)⟩

/-- The single that the other record gives (R4). -/
theorem State.numericSingle_of_other {other : Config.NumericsRecord → Word} (hparam : s.params.fpNumerics = .other)
    (h : exec i s = .next (s.setFpr fd (other Config.otherNumerics)).advance) : s.numericSingle i fd P other := by
  obtain ⟨hreg, hframe, -, hon⟩ := s.setFpr_wroteFpr fd (other Config.otherNumerics)
  exact ⟨_, _, h, ⟨hreg, hframe, hon⟩, by simp [hparam]⟩

/-- The double that the other record gives (R4). -/
theorem State.numericDouble_of_other {other : Config.NumericsRecord → DWord} (hparam : s.params.fpNumerics = .other)
    (h : exec i s = .next (s.setDouble fd (other Config.otherNumerics)).advance) : s.numericDouble i fd P other := by
  obtain ⟨hreg, hframe, -, hon⟩ := s.setDouble_wroteFprPair fd (other Config.otherNumerics)
  exact ⟨_, _, h, ⟨hreg, hframe, hon⟩, by simp [hparam]⟩

theorem State.numericSingle_of_deliverSingle {other : Config.NumericsRecord → Word}
    (h : exec i s = s.deliverSingle fd r other) (hr : singleFormat.meets r P) : s.numericSingle i fd P other := by
  obtain ⟨hparam, hdeliver⟩ | ⟨hparam, hdeliver⟩ := s.deliverSingle_cases fd r other
  · obtain ⟨t, w, hexec, hleft, hP⟩ := State.computesSingle_of_putSingle (h.trans hdeliver) hr
    exact ⟨t, w, hexec, hleft, fun _ => hP, fun hother => nomatch hparam.symm.trans hother⟩
  · exact State.numericSingle_of_other hparam (h.trans hdeliver)

theorem State.numericDouble_of_deliverDouble {other : Config.NumericsRecord → DWord}
    (h : exec i s = s.deliverDouble fd r other) (hr : doubleFormat.meets r P) : s.numericDouble i fd P other := by
  obtain ⟨hparam, hdeliver⟩ | ⟨hparam, hdeliver⟩ := s.deliverDouble_cases fd r other
  · obtain ⟨t, v, hexec, hleft, hP⟩ := State.computesDouble_of_putDouble (h.trans hdeliver) hr
    exact ⟨t, v, hexec, hleft, fun _ => hP, fun hother => nomatch hparam.symm.trans hother⟩
  · exact State.numericDouble_of_other hparam (h.trans hdeliver)

theorem State.numericSingle_of_deliverWord {word : Option Word} {other : Config.NumericsRecord → Word}
    (h : exec i s = s.deliverWord fd word other)
    (hword : ∀ w : Word, (∀ v, word = some v → w = v) → P w.toNat) : s.numericSingle i fd P other := by
  obtain ⟨hparam, hdeliver⟩ | ⟨hparam, hdeliver⟩ := s.deliverWord_cases fd word other
  · obtain ⟨t, w, hput, hleft, hw⟩ := s.putWord_left fd word
    exact ⟨t, w, (h.trans hdeliver).trans hput, hleft, fun _ => hword w hw,
      fun hother => nomatch hparam.symm.trans hother⟩
  · exact State.numericSingle_of_other hparam (h.trans hdeliver)

theorem State.setsFlag_of_putFcc {cc : CondFlag} {b : Bool} {relation : Prop} (h : exec i s = s.putFcc cc b)
    (hb : b = true ↔ relation) : s.setsFlag i cc relation :=
  ⟨_, b, h, hb, fun c => s.getFcc_setFcc cc c b, fun _ => rfl, ⟨rfl, rfl⟩, ⟨rfl, rfl, rfl, rfl⟩, fun _ => rfl,
    ⟨rfl, rfl⟩, fun _ => rfl, ⟨rfl, rfl⟩, rfl, ⟨rfl, rfl, rfl⟩⟩

end

/-! ## The sign bit (R410, R411, R446, R447) -/

section
variable (f : FpFormat) {x : Nat}

theorem FpFormat.magnitude_lt (x : Nat) : f.magnitude x < 2 ^ (f.expBits + f.fracBits) :=
  Nat.mod_lt _ (Nat.two_pow_pos _)

theorem FpFormat.testBit_magnitude (hx : x < 2 ^ (f.expBits + f.fracBits + 1)) (k : Nat) :
    (f.magnitude x).testBit k = (x.testBit k && decide (k ≠ f.expBits + f.fracBits)) := by
  rw [FpFormat.magnitude, Nat.testBit_mod_two_pow, Bool.and_comm]
  obtain hk | rfl | hk := lt_trichotomy k (f.expBits + f.fracBits)
  · simp [hk, hk.ne]
  · simp
  · have hzero : x.testBit k = false :=
      Nat.testBit_lt_two_pow (hx.trans_le (Nat.pow_le_pow_right (by decide) hk))
    simp [hzero]

theorem FpFormat.testBit_flipped (hx : x < 2 ^ (f.expBits + f.fracBits + 1)) (k : Nat) :
    (f.withSign (!f.isNegative x) (f.magnitude x)).testBit k =
      (x.testBit k != decide (k = f.expBits + f.fracBits)) := by
  have hsign : f.isNegative x = x.testBit (f.expBits + f.fracBits) := by
    rw [FpFormat.isNegative, Nat.testBit_eq_decide_div_mod_eq]
    rfl
  rw [FpFormat.withSign_eq, Nat.mul_comm, Nat.testBit_two_pow_mul_add _ (f.magnitude_lt x),
    f.testBit_magnitude hx, hsign]
  obtain hk | rfl | hk := lt_trichotomy k (f.expBits + f.fracBits)
  · simp [hk, hk.ne]
  · cases x.testBit (f.expBits + f.fracBits) <;> simp
  · have hzero : x.testBit k = false :=
      Nat.testBit_lt_two_pow (hx.trans_le (Nat.pow_le_pow_right (by decide) hk))
    have hbool : (!x.testBit (f.expBits + f.fracBits)).toNat < 2 ^ (k - (f.expBits + f.fracBits)) :=
      (Bool.toNat_le _).trans_lt (Nat.one_lt_two_pow (by omega))
    simp [hk.not_gt, hk.ne', hzero, Nat.testBit_lt_two_pow hbool]

theorem FpFormat.abs_meets (hx : x < 2 ^ (f.expBits + f.fracBits + 1)) :
    f.meets (f.abs x) fun n =>
      if f.isNan x then f.isNan n = true
      else ∀ k, n.testBit k = (x.testBit k && decide (k ≠ f.expBits + f.fracBits)) := by
  cases hnan : f.isNan x with
  | true => simp [FpFormat.abs, FpFormat.meets, hnan]
  | false =>
    have hlt : f.magnitude x < 2 ^ (f.expBits + f.fracBits + 1) := (Nat.mod_le _ _).trans_lt hx
    simpa [FpFormat.abs, FpFormat.meets, hnan, hlt] using f.testBit_magnitude hx

theorem FpFormat.neg_meets (hx : x < 2 ^ (f.expBits + f.fracBits + 1)) :
    f.meets (f.neg x) fun n =>
      if f.isNan x then f.isNan n = true
      else ∀ k, n.testBit k = (x.testBit k != decide (k = f.expBits + f.fracBits)) := by
  cases hnan : f.isNan x with
  | true => simp [FpFormat.neg, FpFormat.meets, hnan]
  | false =>
    have hlt := f.withSign_lt (!f.isNegative x) (f.magnitude_lt x)
    simpa [FpFormat.neg, FpFormat.meets, hnan, hlt] using f.testBit_flipped hx

end

/-- Settles O51: a bit of a word is the bit of its number, and the sign bit is the one above the magnitude. -/
theorem fpAbsNeg : Obligations.FpAbsNeg := by
  intro s fd fs
  refine ⟨State.computesSingle_of_putSingle rfl (singleFormat.abs_meets (s.getFpr fs).isLt),
    State.computesSingle_of_putSingle rfl (singleFormat.neg_meets (s.getFpr fs).isLt), fun hfd hfs => ?_⟩
  have habs : exec (.absD fd fs) s = s.putDouble fd (doubleFormat.abs (s.getDouble fs).toNat) :=
    whenEven_pair_of_even _ hfd hfs
  have hneg : exec (.negD fd fs) s = s.putDouble fd (doubleFormat.neg (s.getDouble fs).toNat) :=
    whenEven_pair_of_even _ hfd hfs
  exact ⟨State.computesDouble_of_putDouble habs (doubleFormat.abs_meets (s.getDouble fs).isLt),
    State.computesDouble_of_putDouble hneg (doubleFormat.neg_meets (s.getDouble fs).isLt)⟩

/-! ## The value of a finite operand (R400) -/

/-- `±x`. -/
def signed {K : Type*} [Neg K] (negative : Bool) (x : K) : K := if negative then -x else x

section
variable (a : Bool) (m : Nat)

theorem scaled_eq_signed (e : Int) : scaled a m e = signed a ((m : ℚ) * 2 ^ e) := by
  cases a <;> simp [scaled, signed]

/-- A value as an integer multiple of a lesser power of two. -/
theorem scaled_eq_signedInt_mul {low e : Int} (h : low ≤ e) :
    scaled a m e = (signedInt a (m * 2 ^ (e - low).toNat) : ℚ) * 2 ^ low := by
  have hpow : (2 : ℚ) ^ e = 2 ^ (e - low).toNat * 2 ^ low := by
    rw [← zpow_natCast, ← zpow_add₀ two_ne_zero, Int.toNat_of_nonneg (by omega), sub_add_cancel]
  cases a <;> simp [scaled, signedInt, hpow, mul_assoc]

end

/-! ## Compares (R405) -/

theorem cmp_extended (p q : ℚ) :
    cmp ((p : WithTop ℚ) : WithBot (WithTop ℚ)) ((q : WithTop ℚ) : WithBot (WithTop ℚ)) = cmp p q :=
  (WithBot.coe_strictMono.comp WithTop.coe_strictMono).cmp_map_eq p q

theorem extended_lt_top (p : ℚ) : ((p : WithTop ℚ) : WithBot (WithTop ℚ)) < ⊤ :=
  WithBot.coe_lt_coe.mpr (WithTop.coe_lt_top p)

/-- The integers that the model compares are in the order of the numbers, whose common unit is a power of two. -/
theorem cmp_scaled (a b : Bool) (m n : Nat) (d e : Int) :
    cmp (scaled a m d) (scaled b n e) =
      compare (signedInt a (m * 2 ^ (d - min d e).toNat)) (signedInt b (n * 2 ^ (e - min d e).toNat)) := by
  have hmono : StrictMono fun z : Int => (z : ℚ) * 2 ^ min d e := fun z z' hlt =>
    mul_lt_mul_of_pos_right (Int.cast_lt.mpr hlt) (zpow_pos two_pos _)
  rw [scaled_eq_signedInt_mul a m (min_le_left d e), scaled_eq_signedInt_mul b n (min_le_right d e),
    hmono.cmp_map_eq, cmp_eq_compare]

/-- The model compares as the numbers do, and not at all where an operand is no number. -/
theorem FpValue.order_eq_some_iff (x y : FpValue) (o : Ordering) :
    x.order y = some o ↔ ∃ p q, x.extended = some p ∧ y.extended = some q ∧ cmp p q = o := by
  cases x with
  | nan => simp [FpValue.order, FpValue.extended]
  | infinite a =>
    cases y with
    | nan => simp [FpValue.order, FpValue.extended]
    | infinite b => cases a <;> cases b <;> simp [FpValue.order, FpValue.extended, cmp, cmpUsing]
    | finite b n e => cases a <;> simp [FpValue.order, FpValue.extended, cmp, cmpUsing, extended_lt_top]
  | finite a m d =>
    cases y with
    | nan => simp [FpValue.order, FpValue.extended]
    | infinite b => cases b <;> simp [FpValue.order, FpValue.extended, cmp, cmpUsing, extended_lt_top]
    | finite b n e => simp [FpValue.order, FpValue.extended, cmp_extended, cmp_scaled]

theorem FpValue.isEq_iff (x y : FpValue) : x.isEq y = true ↔ x.equal y := by
  simp only [FpValue.isEq, beq_iff_eq, FpValue.order_eq_some_iff, cmp_eq_eq_iff, FpValue.equal]

theorem FpValue.isLt_iff (x y : FpValue) : x.isLt y = true ↔ x.less y := by
  simp only [FpValue.isLt, beq_iff_eq, FpValue.order_eq_some_iff, cmp_eq_lt_iff, FpValue.less]

theorem FpValue.isLe_iff (x y : FpValue) : x.isLe y = true ↔ x.less y ∨ x.equal y := by
  rw [FpValue.isLe, Bool.or_eq_true, FpValue.isLt_iff, FpValue.isEq_iff]

/-- Settles O57: each compare writes its flag, and the model's order is that of the numbers. -/
theorem fpCompares : Obligations.FpCompares := by
  intro s cc fs ft
  refine ⟨State.setsFlag_of_putFcc rfl (FpValue.isEq_iff _ _), State.setsFlag_of_putFcc rfl (FpValue.isLt_iff _ _),
    State.setsFlag_of_putFcc rfl (FpValue.isLe_iff _ _), fun hfs hft => ?_⟩
  have heven : ∀ k, whenEven (evenFpr fs && evenFpr ft) k = k := fun k => whenEven_pair_of_even k hfs hft
  exact ⟨State.setsFlag_of_putFcc (heven _) (FpValue.isEq_iff _ _),
    State.setsFlag_of_putFcc (heven _) (FpValue.isLt_iff _ _),
    State.setsFlag_of_putFcc (heven _) (FpValue.isLe_iff _ _)⟩

/-! ## The nearest integer (R402, R404) -/

/-- `n` is the integer nearest to `x`, and of two nearest the even one. -/
def isNearestInt {K : Type*} [Field K] [LinearOrder K] (x : K) (n : Int) : Prop :=
  2 * |x - n| ≤ 1 ∧ (2 * |x - n| = 1 → n % 2 = 0)

section
variable {K : Type*} [Field K] [LinearOrder K] {x : K} {n : Int}

theorem isNearestInt_neg (h : isNearestInt x n) : isNearestInt (-x) (-n) := by
  obtain ⟨hnear, htie⟩ := h
  have habs : |-x - ((-n : Int) : K)| = |x - n| := by
    rw [Int.cast_neg, sub_neg_eq_add, neg_add_eq_sub, abs_sub_comm]
  rw [isNearestInt, habs]
  exact ⟨hnear, fun hhalf => by have := htie hhalf; omega⟩

variable [IsStrictOrderedRing K]

/-- The nearest integer is nearer than any other, and as near only if it is even. -/
theorem isNearestInt_abs_sub_le (h : isNearestInt x n) (j : Int) :
    |x - n| ≤ |x - j| ∧ (|x - n| = |x - j| → j = n ∨ n % 2 = 0) := by
  obtain ⟨hnear, htie⟩ := h
  by_cases hj : j = n
  · subst hj
    exact ⟨le_rfl, fun _ => .inl rfl⟩
  have hapart : (1 : K) ≤ |(n : K) - j| := by
    exact_mod_cast Int.one_le_abs (sub_ne_zero.mpr (Ne.symm hj))
  have hsum : |(n : K) - j| ≤ |x - n| + |x - j| := by
    rw [abs_sub_comm x n]
    exact abs_sub_le _ _ _
  exact ⟨by linarith, fun heq => .inr (htie (by linarith))⟩

theorem isNearestInt_unique {n' : Int} (h : isNearestInt x n) (h' : isNearestInt x n') : n = n' := by
  obtain ⟨hle, hodd⟩ := isNearestInt_abs_sub_le h n'
  obtain ⟨hle', hodd'⟩ := isNearestInt_abs_sub_le h' n
  have heq := le_antisymm hle hle'
  obtain hsame | heven := hodd heq
  · exact hsame.symm
  obtain hsame | heven' := hodd' heq.symm
  · exact hsame
  have hclose : |(n : K) - n'| ≤ 1 := by
    have hsum : |(n : K) - n'| ≤ |x - n| + |x - n'| := by
      rw [abs_sub_comm x n]
      exact abs_sub_le _ _ _
    linarith [h.1, h'.1]
  have hclose' : |n - n'| ≤ 1 := by exact_mod_cast hclose
  rw [abs_le] at hclose'
  omega

theorem isNearestInt_self (n : Int) : isNearestInt (n : K) n := by
  simp [isNearestInt]

/-- `roundShift` is off by half a unit at most, and by half a unit only where it is even. -/
theorem two_mul_abs_sub_roundShift_le (m k : Nat) :
    2 * |(m : Int) - roundShift m k * 2 ^ k| ≤ 2 ^ k ∧
      (2 * |(m : Int) - roundShift m k * 2 ^ k| = 2 ^ k → roundShift m k % 2 = 0) := by
  have hsplit : 2 ^ k * (m / 2 ^ k) + m % 2 ^ k = m := Nat.div_add_mod m (2 ^ k)
  have hrest : m % 2 ^ k < 2 ^ k := Nat.mod_lt _ (Nat.two_pow_pos k)
  simp only [roundShift]
  generalize m / 2 ^ k = q at *
  generalize m % 2 ^ k = r at *
  have hcast : (2 : Int) ^ k = (2 ^ k : Nat) := by push_cast; rfl
  rw [hcast]
  generalize 2 ^ k = p at *
  subst hsplit
  split
  · next hup =>
    simp only [Bool.or_eq_true, decide_eq_true_eq, Bool.and_eq_true, beq_iff_eq] at hup
    have hoff : ((p * q + r : Nat) : Int) - ((q + 1 : Nat) : Int) * p = -(p - r : Nat) := by
      push_cast [Nat.cast_sub hrest.le]; ring
    rw [hoff, abs_neg, Nat.abs_cast]
    omega
  · next hdown =>
    simp only [Bool.or_eq_true, decide_eq_true_eq, Bool.and_eq_true, beq_iff_eq] at hdown
    have hoff : ((p * q + r : Nat) : Int) - (q : Int) * p = (r : Nat) := by push_cast; ring
    rw [hoff, Nat.abs_cast]
    omega

theorem isNearestInt_div_iff {y p : K} (hp : 0 < p) :
    isNearestInt (y / p) n ↔ 2 * |y - n * p| ≤ p ∧ (2 * |y - n * p| = p → n % 2 = 0) := by
  have hscale : 2 * |y - n * p| = 2 * |y / p - n| * p := by
    rw [mul_assoc, ← abs_of_pos hp, ← abs_mul, abs_of_pos hp, sub_mul, div_mul_cancel₀ _ hp.ne']
  rw [hscale, mul_le_iff_le_one_left hp, mul_eq_right₀ hp.ne', isNearestInt]

theorem isNearestInt_roundShift (m k : Nat) : isNearestInt ((m : K) / 2 ^ k) (roundShift m k) := by
  obtain ⟨hnear, htie⟩ := two_mul_abs_sub_roundShift_le m k
  rw [isNearestInt_div_iff (pow_pos two_pos k)]
  exact ⟨by exact_mod_cast hnear, fun hhalf => by exact_mod_cast htie (by exact_mod_cast hhalf)⟩

/-- An odd number is not half-way between multiples of 4, so a number close to it has the same nearest multiple. -/
theorem isNearestInt_roundShift_of_odd {y : K} {m k : Nat} (hodd : m % 2 = 1) (hk : 2 ≤ k) (hclose : |y - m| < 1) :
    isNearestInt (y / 2 ^ k) (roundShift m k) := by
  obtain ⟨hnear, -⟩ := two_mul_abs_sub_roundShift_le m k
  have hpow : (2 : Int) ^ k = 4 * 2 ^ (k - 2) := by
    rw [← Nat.sub_add_cancel hk, pow_add, Nat.add_sub_cancel]; ring
  have hfar : 2 * |(m : Int) - roundShift m k * 2 ^ k| + 2 ≤ 2 ^ k := by
    rw [hpow, mul_left_comm, Int.abs_eq_natAbs] at hnear ⊢
    omega
  have hfar' : 2 * |(m : K) - roundShift m k * 2 ^ k| + 2 ≤ 2 ^ k := by exact_mod_cast hfar
  have hsum : |y - roundShift m k * 2 ^ k| ≤ |y - m| + |(m : K) - roundShift m k * 2 ^ k| := abs_sub_le _ _ _
  have hless : 2 * |y - (roundShift m k : Int) * 2 ^ k| < 2 ^ k := by
    rw [Int.cast_natCast]; linarith
  rw [isNearestInt_div_iff (pow_pos two_pos k)]
  exact ⟨hless.le, fun hhalf => absurd hhalf hless.ne⟩

end

/-! ## Conversion to a word (R404) -/

/-- An integer has only itself for a rounding. -/
theorem roundsToInt_intCast {mode : Rounding} {z n : Int} (h : roundsToInt mode (z : ℚ) n) : n = z := by
  cases mode with
  | towardPositive => simpa [roundsToInt] using h
  | towardNegative => simpa [roundsToInt] using h
  | towardZero => simpa [roundsToInt] using h
  | nearestEven => exact isNearestInt_unique h (isNearestInt_self z)

/-- The two integers of `roundToInt`, below and above. -/
theorem floor_div_two_pow (m k : Nat) : ⌊(m : ℚ) / 2 ^ k⌋ = (m / 2 ^ k : Nat) := by
  exact_mod_cast Rat.floor_natCast_div_natCast m (2 ^ k)

theorem ceil_div_two_pow (m k : Nat) :
    ⌈(m : ℚ) / 2 ^ k⌉ = ((if m % 2 ^ k = 0 then m / 2 ^ k else m / 2 ^ k + 1 : Nat) : Int) := by
  have hpos : (0 : ℚ) < 2 ^ k := pow_pos two_pos k
  have hsplit : 2 ^ k * (m / 2 ^ k) + m % 2 ^ k = m := Nat.div_add_mod m (2 ^ k)
  have hrest : m % 2 ^ k < 2 ^ k := Nat.mod_lt _ (Nat.two_pow_pos k)
  rw [Int.ceil_eq_iff, lt_div_iff₀ hpos, div_le_iff₀ hpos]
  generalize m / 2 ^ k = q at *
  generalize m % 2 ^ k = r at *
  subst hsplit
  have hrest' : (r : ℚ) < 2 ^ k := by exact_mod_cast hrest
  have hr : (0 : ℚ) ≤ r := r.cast_nonneg
  split
  · next hzero => subst hzero; push_cast; constructor <;> linarith
  · next hne =>
    have hpos' : (0 : ℚ) < r := by exact_mod_cast Nat.pos_of_ne_zero hne
    push_cast
    constructor <;> linarith

theorem trunc_neg_of_nonneg {q : ℚ} (h : 0 ≤ q) : (if 0 ≤ -q then ⌊-q⌋ else ⌈-q⌉) = -⌊q⌋ := by
  split
  · next hneg =>
    have hzero : q = 0 := by linarith
    simp [hzero]
  · exact Int.ceil_neg

/-- `roundToInt` is the rounding of R404, the only one. -/
theorem roundToInt_eq {mode : Rounding} {a : Bool} {m : Nat} {e n : Int} (h : roundsToInt mode (scaled a m e) n) :
    roundToInt mode a m e = n := by
  unfold roundToInt
  split
  · next he =>
    rw [scaled_eq_signedInt_mul a m he, zpow_zero, mul_one, sub_zero] at h
    exact (roundsToInt_intCast h).symm
  · next he =>
    obtain ⟨k, rfl⟩ : ∃ k : Nat, e = -k := ⟨(-e).toNat, by omega⟩
    have hvalue : scaled a m (-k) = signed a ((m : ℚ) / 2 ^ k) := by
      rw [scaled_eq_signed, zpow_neg, zpow_natCast, div_eq_mul_inv]
    have hfloor := floor_div_two_pow m k
    have hceil := ceil_div_two_pow m k
    rw [hvalue] at h
    simp only [neg_neg, Int.toNat_natCast]
    cases mode with
    | towardPositive =>
      cases a with
      | false => exact (h.trans hceil).symm
      | true => exact (h.trans (Int.ceil_neg.trans (congrArg _ hfloor))).symm
    | towardNegative =>
      cases a with
      | false => exact (h.trans hfloor).symm
      | true => exact (h.trans (Int.floor_neg.trans (congrArg _ hceil))).symm
    | towardZero =>
      have hnonneg : (0 : ℚ) ≤ m / 2 ^ k := by positivity
      cases a with
      | false => exact (h.trans ((if_pos hnonneg).trans hfloor)).symm
      | true => exact (h.trans ((trunc_neg_of_nonneg hnonneg).trans (congrArg _ hfloor))).symm
    | nearestEven =>
      cases a with
      | false => exact isNearestInt_unique (isNearestInt_roundShift m k) h
      | true => exact isNearestInt_unique (isNearestInt_neg (isNearestInt_roundShift m k)) h

theorem FpValue.toWord_eq_some {mode : Rounding} {a : Bool} {m : Nat} {e n : Int}
    (h : roundsToInt mode (scaled a m e) n) (hlow : -(2 ^ 31) ≤ n) (hhigh : n < 2 ^ 31) :
    (FpValue.finite a m e).toWord mode = some (BitVec.ofInt 32 n) := by
  simp only [FpValue.toWord, roundToInt_eq h]
  rw [if_neg]
  simp only [Bool.or_eq_true, decide_eq_true_eq]
  omega

theorem State.numericSingle_of_toWord {s : State} {i : Instr} {fd : FReg} {mode : Rounding} {x : FpValue}
    {other : Config.NumericsRecord → Word} (h : exec i s = s.deliverWord fd (x.toWord mode) other) :
    s.numericSingle i fd (x.convertsTo mode) other := by
  refine State.numericSingle_of_deliverWord h fun w hw a m e n hx hround hlow hhigh => ?_
  subst hx
  rw [hw _ (FpValue.toWord_eq_some hround hlow hhigh), BitVec.ofNat_toNat, BitVec.setWidth_eq]
  exact BitVec.toInt_ofInt_eq_self (by decide) hlow hhigh

/-- Settles O56: all ten conversions deliver `toWord`, which rounds in their direction. -/
theorem fpToWord : Obligations.FpToWord := by
  intro s fd fs
  refine ⟨State.numericSingle_of_toWord rfl, State.numericSingle_of_toWord rfl, State.numericSingle_of_toWord rfl,
    State.numericSingle_of_toWord rfl, State.numericSingle_of_toWord rfl, fun hfs => ?_⟩
  have heven : ∀ k, whenEven (evenFpr fs) k = k := fun k => whenEven_of_even k hfs
  exact ⟨State.numericSingle_of_toWord (heven _), State.numericSingle_of_toWord (heven _),
    State.numericSingle_of_toWord (heven _), State.numericSingle_of_toWord (heven _),
    State.numericSingle_of_toWord (heven _)⟩

end Sys2Proof.Machine

/-!
PROOFS. Rounding to a format (R402), on which the arithmetic rests. A positive number is taken as `x` units of the
format at its magnitude; `FpFormat.RoundedAt` says that `M` is the nearest integer to `x`, and its lemmas that the bits made of
the unit and `M` are the nearest number of the format, or infinity from the limit on. The theorem about the model,
`FpFormat.roundTo_roundsTo`, holds of any real number that the integer handed to `roundTo` stands for: an inexact
quotient or root is handed over as an odd number with bits to spare.
-/

namespace Sys2Proof.Machine

/-! ## Rounding to a format (R402): units and their multiples -/

/-- `M` is the rounded multiple of the unit `2^(minExp + U)` for the number that is `x` of these units: the unit is the
one that the format has at this magnitude, the least one below the normal range. -/
structure FpFormat.RoundedAt (f : FpFormat) (x : ℝ) (U M : Nat) : Prop where
  nearest : isNearestInt x M
  lt_two_units : x < 2 ^ (f.fracBits + 1)
  least_or_normal : U = 0 ∨ 2 ^ f.fracBits ≤ x

section
variable {f : FpFormat} {x : ℝ} {U M : Nat}

theorem FpFormat.RoundedAt.mant_le (h : f.RoundedAt x U M) : M ≤ 2 ^ (f.fracBits + 1) := by
  obtain ⟨⟨hnear, -⟩, hlt, -⟩ := h
  have hhalf := (abs_le.mp (show |x - (M : Int)| ≤ 1 / 2 by linarith)).1
  have hcast : (M : ℝ) < (2 ^ (f.fracBits + 1) + 1 : Nat) := by
    push_cast at hhalf ⊢
    linarith
  exact Nat.lt_succ_iff.mp (by exact_mod_cast hcast)

theorem FpFormat.RoundedAt.le_mant (h : f.RoundedAt x U M) : U = 0 ∨ 2 ^ f.fracBits ≤ M := by
  obtain ⟨⟨hnear, -⟩, -, hnormal⟩ := h
  refine hnormal.imp_right fun hle => ?_
  have hhalf := (abs_le.mp (show |x - (M : Int)| ≤ 1 / 2 by linarith)).2
  have hcast : ((2 ^ f.fracBits : Nat) : ℝ) < (M + 1 : Nat) := by
    push_cast at hhalf ⊢
    linarith
  exact Nat.lt_succ_iff.mp (by exact_mod_cast hcast)

/-- The bits over the fraction count the units from the least one, and a mantissa that was rounded up to the next power
of two carries into them. -/
theorem FpFormat.unpack_packed (negative : Bool) (hle : M ≤ 2 ^ (f.fracBits + 1)) (hge : U = 0 ∨ 2 ^ f.fracBits ≤ M)
    (hlt : U * 2 ^ f.fracBits + M < f.infinity) :
    ∃ m e, f.unpack (f.withSign negative (U * 2 ^ f.fracBits + M)) = .finite negative m e ∧
      (m : ℚ) * 2 ^ e = M * 2 ^ (f.minExp + U) := by
  have hunit : 0 < 2 ^ f.fracBits := Nat.two_pow_pos _
  have hdiv : (U * 2 ^ f.fracBits + M) / 2 ^ f.fracBits = U + M / 2 ^ f.fracBits := by
    rw [Nat.mul_comm, Nat.mul_add_div hunit]
  have hfield : (U * 2 ^ f.fracBits + M) / 2 ^ f.fracBits ≠ 2 ^ f.expBits - 1 :=
    ((Nat.div_lt_iff_lt_mul hunit).mpr hlt).ne
  rw [f.unpack_withSign negative (hlt.trans f.infinity_lt), if_neg hfield, Nat.mul_add_mod_self_right, hdiv]
  rw [pow_succ] at hle
  obtain hdenormal | hnormal := Nat.lt_or_ge M (2 ^ f.fracBits)
  · obtain rfl : U = 0 := hge.resolve_right (by omega)
    rw [Nat.div_eq_of_lt hdenormal, Nat.mod_eq_of_lt hdenormal]
    exact ⟨M, f.minExp, by simp, by simp⟩
  obtain hcarry | hsame := hle.eq_or_lt
  · subst hcarry
    rw [Nat.mul_div_cancel_left _ hunit, Nat.mul_mod_right, if_neg (by omega)]
    refine ⟨_, _, rfl, ?_⟩
    rw [show f.minExp + ((U + 2 : Nat) : Int) - 1 = 1 + (f.minExp + U) by push_cast; ring, zpow_add₀ two_ne_zero]
    push_cast
    ring
  · have hone : M / 2 ^ f.fracBits = 1 := Nat.div_eq_of_lt_le (by omega) (by omega)
    have hrest : 2 ^ f.fracBits + M % 2 ^ f.fracBits = M := by
      have hsplit := Nat.div_add_mod M (2 ^ f.fracBits)
      rwa [hone, Nat.mul_one] at hsplit
    rw [hone, hrest, if_neg (by omega)]
    exact ⟨_, _, rfl, by rw [show f.minExp + ((U + 1 : Nat) : Int) - 1 = f.minExp + U by push_cast; ring]⟩

/-- Every finite number of the format is a multiple of the unit, or below the normal range of the unit. -/
theorem FpFormat.scaled_eq_units {n m : Nat} {a : Bool} {e : Int} (h : f.unpack n = .finite a m e) (negative : Bool)
    (U : Nat) :
    ∃ w : ℝ, (scaled negative m e : ℝ) = w * 2 ^ (f.minExp + U) ∧
      ((∃ j : Int, w = j) ∨ (U ≠ 0 ∧ w < 2 ^ f.fracBits)) := by
  obtain ⟨hm, he⟩ := FpFormat.unpack_finite_bounds h
  by_cases hunit : f.minExp + U ≤ e
  · refine ⟨_, ?_, .inl ⟨signedInt negative (m * 2 ^ (e - (f.minExp + U)).toNat), rfl⟩⟩
    rw [scaled_eq_signedInt_mul negative m hunit]
    push_cast
    rfl
  · refine ⟨scaled negative m e / 2 ^ (f.minExp + U), (div_mul_cancel₀ _ (zpow_pos two_pos _).ne').symm,
      .inr ⟨by omega, ?_⟩⟩
    rw [div_lt_iff₀ (zpow_pos two_pos _)]
    have hle : (scaled negative m e : ℝ) ≤ m * 2 ^ e := by
      have hpos : (0 : ℝ) ≤ m * 2 ^ e := by positivity
      have hneg : -((m : ℝ) * 2 ^ e) ≤ m * 2 ^ e := by linarith
      cases negative <;> simp [scaled, hneg]
    have hmant : (m : ℝ) < 2 ^ (f.fracBits + 1) := by exact_mod_cast hm
    calc (scaled negative m e : ℝ) ≤ m * 2 ^ e := hle
      _ < 2 ^ (f.fracBits + 1) * 2 ^ e := mul_lt_mul_of_pos_right hmant (zpow_pos two_pos _)
      _ = 2 ^ f.fracBits * 2 ^ (e + 1) := by rw [zpow_add_one₀ two_ne_zero]; ring
      _ ≤ 2 ^ f.fracBits * 2 ^ (f.minExp + U) :=
        mul_le_mul_of_nonneg_left (zpow_le_zpow_right₀ one_le_two (by omega)) (by positivity)

/-- No number of the format is nearer than the rounded multiple, and one as near only where that is even. -/
theorem FpFormat.RoundedAt.abs_sub_le (h : f.RoundedAt x U M) {w : ℝ}
    (hw : (∃ j : Int, w = j) ∨ (U ≠ 0 ∧ w < 2 ^ f.fracBits)) :
    |x - M| ≤ |x - w| ∧ (|x - M| = |x - w| → w = M ∨ M % 2 = 0) := by
  obtain ⟨hnearest, -, hnormal⟩ := h
  obtain ⟨j, rfl⟩ | ⟨hU, hw⟩ := hw
  · have hbest := isNearestInt_abs_sub_le hnearest j
    exact_mod_cast hbest
  · have hx := hnormal.resolve_left hU
    have hbest := (isNearestInt_abs_sub_le hnearest (2 ^ f.fracBits : Nat)).1
    push_cast at hbest
    rw [abs_of_nonneg (sub_nonneg.mpr hx)] at hbest
    rw [abs_of_pos (by linarith : 0 < x - w)]
    exact ⟨by linarith, fun heq => by linarith⟩

/-! ## Rounding to a format (R402): overflow -/

/-- The greatest unit of the format is `2^(minExp + (2^expBits - 3))`. -/
theorem FpFormat.overflowLimit_eq (hf : f.proper) :
    (f.overflowLimit : ℝ) = (2 * 2 ^ f.fracBits - 1 / 2) * 2 ^ (f.minExp + (2 ^ f.expBits - 3 : Nat)) := by
  obtain ⟨hexp, -⟩ := hf
  have hbias : 2 * (f.bias + 1) = 2 ^ f.expBits := by
    rw [FpFormat.bias, Nat.sub_add_cancel (Nat.two_pow_pos _), ← pow_succ', Nat.sub_add_cancel (by omega)]
  have hbig : 2 ^ 2 ≤ 2 ^ f.expBits := Nat.pow_le_pow_right two_pos hexp
  have hunit : f.minExp + (2 ^ f.expBits - 3 : Nat) = (f.bias : Int) - f.fracBits - 1 + 1 := by
    rw [FpFormat.minExp]
    omega
  rw [hunit, zpow_add_one₀ two_ne_zero, FpFormat.overflowLimit]
  push_cast
  ring

theorem FpFormat.infinity_eq (hf : f.proper) : f.infinity = (2 ^ f.expBits - 3 + 2) * 2 ^ f.fracBits := by
  have hbig : 2 ^ 2 ≤ 2 ^ f.expBits := Nat.pow_le_pow_right two_pos hf.1
  rw [FpFormat.infinity]
  congr 1
  omega

/-- A mantissa of the greatest unit stays below the next power of two exactly below the limit; at the limit, half-way,
the even neighbour is above. -/
theorem FpFormat.RoundedAt.mant_lt_iff (h : f.RoundedAt x U M) :
    M < 2 * 2 ^ f.fracBits ↔ x < 2 * 2 ^ f.fracBits - 1 / 2 := by
  obtain ⟨⟨hnear, htie⟩, -, -⟩ := h
  rw [Int.cast_natCast] at hnear htie
  have hhalf := abs_le.mp (show |x - (M : ℝ)| ≤ 1 / 2 by linarith)
  constructor
  · intro hlt
    have hle : (M : ℝ) + 1 ≤ 2 * 2 ^ f.fracBits := by exact_mod_cast hlt
    refine lt_of_le_of_ne (by linarith) fun heq => ?_
    have hmant : (M : ℝ) + 1 = 2 * 2 ^ f.fracBits := by linarith
    have heven := htie (by rw [show x - M = 1 / 2 by linarith, abs_of_pos (by norm_num)]; norm_num)
    have hodd : M + 1 = 2 * 2 ^ f.fracBits := by exact_mod_cast hmant
    omega
  · intro hlt
    have hcast : (M : ℝ) < (2 * 2 ^ f.fracBits : Nat) := by
      push_cast
      linarith
    exact_mod_cast hcast

/-- The bits stay below those of infinity exactly below the limit. -/
theorem FpFormat.RoundedAt.packed_lt_infinity_iff (hf : f.proper) (h : f.RoundedAt x U M) :
    U * 2 ^ f.fracBits + M < f.infinity ↔ x * 2 ^ (f.minExp + U) < f.overflowLimit := by
  have hmant := h.mant_lt_iff
  have hle := h.mant_le
  have hge := h.le_mant
  obtain ⟨-, hlt, hnormal⟩ := h
  rw [FpFormat.overflowLimit_eq hf, FpFormat.infinity_eq hf]
  generalize 2 ^ f.expBits - 3 = T
  have hone : (1 : ℝ) ≤ 2 ^ f.fracBits := one_le_pow₀ one_le_two
  have hone' : 0 < 2 ^ f.fracBits := Nat.two_pow_pos _
  rw [pow_succ] at hle hlt
  obtain hbelow | rfl | habove := Nat.lt_trichotomy U T
  · have hpow : (2 : ℝ) ^ (f.minExp + U) * 2 ≤ 2 ^ (f.minExp + T) := by
      rw [← zpow_add_one₀ two_ne_zero]
      exact zpow_le_zpow_right₀ one_le_two (by omega)
    have hunit : (0 : ℝ) < 2 ^ (f.minExp + U) := zpow_pos two_pos _
    refine iff_of_true (by nlinarith) ?_
    calc x * 2 ^ (f.minExp + U) < 2 ^ f.fracBits * 2 * 2 ^ (f.minExp + U) := mul_lt_mul_of_pos_right hlt hunit
      _ ≤ (2 * 2 ^ f.fracBits - 1 / 2) * (2 ^ (f.minExp + U) * 2) := by nlinarith
      _ ≤ (2 * 2 ^ f.fracBits - 1 / 2) * 2 ^ (f.minExp + T) := mul_le_mul_of_nonneg_left hpow (by linarith)
  · rw [mul_lt_mul_iff_left₀ (zpow_pos two_pos _), ← hmant, Nat.add_mul]
    omega
  · have hpow : (2 : ℝ) ^ (f.minExp + T) * 2 ≤ 2 ^ (f.minExp + U) := by
      rw [← zpow_add_one₀ two_ne_zero]
      exact zpow_le_zpow_right₀ one_le_two (by omega)
    have hx := hnormal.resolve_left (by omega)
    have hM := hge.resolve_left (by omega)
    have hunit : (0 : ℝ) < 2 ^ (f.minExp + T) := zpow_pos two_pos _
    refine iff_of_false (by nlinarith) (not_lt.mpr ?_)
    calc (2 * 2 ^ f.fracBits - 1 / 2) * 2 ^ (f.minExp + T) ≤ 2 ^ f.fracBits * (2 ^ (f.minExp + T) * 2) := by
          nlinarith
      _ ≤ x * 2 ^ (f.minExp + U) := mul_le_mul hx hpow (by positivity) (by linarith)

/-! ## Rounding to a format (R402): the rounded bits -/

theorem scaled_eq_signed_of_eq {m M : Nat} {e u : Int} (h : (m : ℚ) * 2 ^ e = M * 2 ^ u) (negative : Bool) :
    (scaled negative m e : ℝ) = signed negative ((M : ℝ) * 2 ^ u) := by
  rw [scaled_eq_signed, h]
  cases negative <;> simp [signed]

/-- To compare with a signed number is to compare with the number of the other sign. -/
theorem abs_signed_sub_scaled (y : ℝ) (negative a : Bool) (m : Nat) (e : Int) :
    |signed negative y - scaled a m e| = |y - scaled (negative != a) m e| := by
  cases negative
  · simp [signed]
  · rw [← abs_neg]
    cases a <;> simp [signed, scaled] <;> ring_nf

theorem abs_signed_sub_signed (negative : Bool) (y z : ℝ) : |signed negative y - signed negative z| = |y - z| := by
  cases negative
  · rfl
  · rw [← abs_neg]
    simp [signed, neg_add_eq_sub]

theorem FpFormat.RoundedAt.isNearest (hf : f.proper) (h : f.RoundedAt x U M) (negative : Bool)
    (hlt : U * 2 ^ f.fracBits + M < f.infinity) :
    f.isNearest (signed negative (x * 2 ^ (f.minExp + U))) (f.withSign negative (U * 2 ^ f.fracBits + M)) := by
  have hunit : (0 : ℝ) < 2 ^ (f.minExp + U) := zpow_pos two_pos _
  obtain ⟨m, e, hunpack, hvalue⟩ := FpFormat.unpack_packed negative h.mant_le h.le_mant hlt
  refine ⟨negative, m, e, hunpack, fun n' a' m' e' hn' => ?_⟩
  obtain ⟨w, hw, hcase⟩ := FpFormat.scaled_eq_units hn' (negative != a') U
  obtain ⟨hle, htie⟩ := h.abs_sub_le hcase
  have hnew := scaled_eq_signed_of_eq hvalue negative
  have hdist : |signed negative (x * 2 ^ (f.minExp + U)) - (scaled negative m e : ℝ)| =
      |x - M| * 2 ^ (f.minExp + U) := by
    rw [hnew, abs_signed_sub_signed, ← sub_mul, abs_mul, abs_of_pos hunit]
  have hdist' : |signed negative (x * 2 ^ (f.minExp + U)) - (scaled a' m' e' : ℝ)| =
      |x - w| * 2 ^ (f.minExp + U) := by
    rw [abs_signed_sub_scaled, hw, ← sub_mul, abs_mul, abs_of_pos hunit]
  rw [hdist, hdist']
  refine ⟨mul_le_mul_of_nonneg_right hle hunit.le, fun heq => ?_⟩
  refine (htie (mul_right_cancel₀ hunit.ne' heq)).imp (fun hwM => ?_) (fun heven => ?_)
  · have hsame : (scaled a' m' e' : ℝ) = scaled negative m e := by
      have hzero := abs_signed_sub_scaled (M * 2 ^ (f.minExp + U)) negative a' m' e'
      rw [hw, hwM, sub_self, abs_zero, abs_eq_zero, ← hnew, sub_eq_zero] at hzero
      exact hzero.symm
    exact_mod_cast hsame
  · have hpow : 2 ^ f.fracBits % 2 = 0 := Nat.mod_eq_zero_of_dvd (dvd_pow_self 2 (Nat.one_le_iff_ne_zero.mp hf.2))
    rw [f.withSign_mod_two negative hf, Nat.add_mod, Nat.mul_mod, hpow, heven, Nat.mul_zero]

/-- The bits that count the units and the mantissa, no higher than those of infinity, are the rounded number. -/
theorem FpFormat.RoundedAt.roundsTo (hf : f.proper) (h : f.RoundedAt x U M) (hx : 0 < x) (negative zeroSign : Bool) :
    f.roundsTo (signed negative (x * 2 ^ (f.minExp + U))) zeroSign
      (f.withSign negative (min (U * 2 ^ f.fracBits + M) f.infinity)) := by
  have hpos : (0 : ℝ) < x * 2 ^ (f.minExp + U) := mul_pos hx (zpow_pos two_pos _)
  have hbound : min (U * 2 ^ f.fracBits + M) f.infinity < 2 ^ (f.expBits + f.fracBits) :=
    (min_le_right _ _).trans_lt f.infinity_lt
  have habs : |signed negative (x * 2 ^ (f.minExp + U))| = x * 2 ^ (f.minExp + U) := by
    cases negative
    · exact abs_of_pos hpos
    · exact (abs_neg _).trans (abs_of_pos hpos)
  have hsign : signed negative (x * 2 ^ (f.minExp + U)) < 0 ↔ negative = true := by
    cases negative
    · exact iff_of_false hpos.not_gt Bool.false_ne_true
    · exact iff_of_true (neg_neg_of_pos hpos) rfl
  refine ⟨fun hzero => absurd habs (by rw [hzero, abs_zero]; exact hpos.ne), fun _ => ?_⟩
  rw [f.isNegative_withSign negative hbound, f.magnitude_withSign negative hbound, habs, hsign,
    ← h.packed_lt_infinity_iff hf, ← not_lt, ← h.packed_lt_infinity_iff hf, not_lt]
  refine ⟨Iff.rfl, fun hlt => ?_, fun hge => min_eq_right hge⟩
  rw [min_eq_left hlt.le]
  exact h.isNearest hf negative hlt

end

/-! ## What `roundTo` delivers (R402) -/

/-- The exponent of the unit that `roundTo` rounds `m * 2^e` to. -/
def FpFormat.roundUnit (f : FpFormat) (m : Nat) (e : Int) : Int := max ((Nat.log2 m : Int) + e - f.fracBits) f.minExp

/-- The number of these units. -/
def FpFormat.roundMant (f : FpFormat) (m : Nat) (e : Int) : Nat :=
  if f.roundUnit m e ≤ e then m * 2 ^ (e - f.roundUnit m e).toNat
  else roundShift m (f.roundUnit m e - e).toNat

/-- The integer `m` rounds as `y` does: it is `y`, or it is odd, has more than one bit below the unit of the format, and
`y` lies between the even numbers next to it. -/
def FpFormat.standsFor (f : FpFormat) (m : Nat) (y : ℝ) : Prop :=
  y = m ∨ (m % 2 = 1 ∧ 2 ^ (f.fracBits + 2) ≤ m ∧ |y - m| < 1)

section
variable (f : FpFormat) (negative : Bool) {m : Nat} {e : Int} {y : ℝ}

theorem FpFormat.roundTo_zero (e : Int) : f.roundTo negative 0 e = f.withSign negative 0 := rfl

theorem FpFormat.roundTo_of_ne_zero (hm : m ≠ 0) (e : Int) :
    f.roundTo negative m e = f.withSign negative
      (min ((f.roundUnit m e - f.minExp).toNat * 2 ^ f.fracBits + f.roundMant m e) f.infinity) :=
  if_neg hm

theorem FpFormat.minExp_add_roundUnit (m : Nat) (e : Int) :
    f.minExp + ((f.roundUnit m e - f.minExp).toNat : Int) = f.roundUnit m e := by
  rw [FpFormat.roundUnit]
  omega

theorem FpFormat.roundTo_lt (m : Nat) (e : Int) :
    f.roundTo negative m e < 2 ^ (f.expBits + f.fracBits + 1) := by
  obtain rfl | hm := eq_or_ne m 0
  · exact f.withSign_lt negative (Nat.two_pow_pos _)
  · rw [f.roundTo_of_ne_zero negative hm]
    exact f.withSign_lt negative ((min_le_right _ _).trans_lt f.infinity_lt)

variable {f}

/-- A number has the leading bit of the integer that stands for it. -/
theorem FpFormat.standsFor.log2_bounds (h : f.standsFor m y) (hm : m ≠ 0) :
    2 ^ Nat.log2 m ≤ y ∧ y < 2 ^ (Nat.log2 m + 1) := by
  have hlow := Nat.log2_self_le hm
  have hhigh := Nat.lt_log2_self (n := m)
  obtain rfl | ⟨hodd, hbig, hclose⟩ := h
  · exact ⟨by exact_mod_cast hlow, by exact_mod_cast hhigh⟩
  obtain ⟨hclose₁, hclose₂⟩ := abs_lt.mp hclose
  have hlog : f.fracBits + 2 ≤ Nat.log2 m := (Nat.le_log2 hm).mpr hbig
  have heven : 2 ^ Nat.log2 m % 2 = 0 := Nat.mod_eq_zero_of_dvd (dvd_pow_self 2 (by omega))
  have hlow' : ((2 ^ Nat.log2 m + 1 : Nat) : ℝ) ≤ m := by exact_mod_cast (by omega)
  have hhigh' : ((m + 1 : Nat) : ℝ) ≤ (2 ^ (Nat.log2 m + 1) : Nat) := by exact_mod_cast hhigh
  push_cast at hlow' hhigh'
  exact ⟨by linarith, by linarith⟩

theorem FpFormat.standsFor.isNearestInt_roundMant (h : f.standsFor m y) (hm : m ≠ 0) (e : Int) :
    isNearestInt (y * 2 ^ (e - f.roundUnit m e)) (f.roundMant m e) := by
  have hunit : (Nat.log2 m : Int) + e - f.fracBits ≤ f.roundUnit m e := le_max_left _ _
  rw [FpFormat.roundMant]
  split
  · next hle =>
    obtain ⟨k, hk⟩ : ∃ k : Nat, e - f.roundUnit m e = k := ⟨_, (Int.toNat_of_nonneg (by omega)).symm⟩
    obtain rfl | ⟨-, hbig, -⟩ := h
    · rw [hk, zpow_natCast, Int.toNat_natCast]
      have hself := isNearestInt_self (K := ℝ) (m * 2 ^ k : Nat)
      push_cast at hself ⊢
      exact hself
    · have hlog : f.fracBits + 2 ≤ Nat.log2 m := (Nat.le_log2 hm).mpr hbig
      omega
  · next hlt =>
    obtain ⟨k, hk⟩ : ∃ k : Nat, f.roundUnit m e - e = k := ⟨_, (Int.toNat_of_nonneg (by omega)).symm⟩
    rw [← neg_sub, hk, zpow_neg, zpow_natCast, ← div_eq_mul_inv, Int.toNat_natCast]
    obtain rfl | ⟨hodd, hbig, hclose⟩ := h
    · exact isNearestInt_roundShift m k
    · have hlog : f.fracBits + 2 ≤ Nat.log2 m := (Nat.le_log2 hm).mpr hbig
      exact isNearestInt_roundShift_of_odd hodd (by omega) hclose

theorem FpFormat.standsFor.roundedAt (h : f.standsFor m y) (hm : m ≠ 0) (e : Int) :
    f.RoundedAt (y * 2 ^ (e - f.roundUnit m e)) (f.roundUnit m e - f.minExp).toNat (f.roundMant m e) := by
  obtain ⟨hlow, hhigh⟩ := h.log2_bounds hm
  have hscale : (0 : ℝ) < 2 ^ (e - f.roundUnit m e) := zpow_pos two_pos _
  refine ⟨h.isNearestInt_roundMant hm e, ?_, ?_⟩
  · calc y * 2 ^ (e - f.roundUnit m e) < 2 ^ (Nat.log2 m + 1) * 2 ^ (e - f.roundUnit m e) :=
        mul_lt_mul_of_pos_right hhigh hscale
      _ = 2 ^ ((Nat.log2 m + 1 : Nat) + (e - f.roundUnit m e)) := by
        rw [zpow_add₀ two_ne_zero, zpow_natCast]
      _ ≤ 2 ^ ((f.fracBits + 1 : Nat) : Int) := by
        have hunit : (Nat.log2 m : Int) + e - f.fracBits ≤ f.roundUnit m e := le_max_left _ _
        exact zpow_le_zpow_right₀ one_le_two (by push_cast; omega)
      _ = 2 ^ (f.fracBits + 1) := zpow_natCast _ _
  · obtain hunit | hunit := max_choice ((Nat.log2 m : Int) + e - f.fracBits) f.minExp
    · right
      calc (2 : ℝ) ^ f.fracBits = 2 ^ (f.fracBits : Int) := (zpow_natCast _ _).symm
        _ = 2 ^ ((Nat.log2 m : Int) + (e - f.roundUnit m e)) := by
          rw [FpFormat.roundUnit, hunit]
          congr 1
          ring
        _ = 2 ^ Nat.log2 m * 2 ^ (e - f.roundUnit m e) := by rw [zpow_add₀ two_ne_zero, zpow_natCast]
        _ ≤ y * 2 ^ (e - f.roundUnit m e) := mul_le_mul_of_nonneg_right hlow hscale.le
    · left
      rw [FpFormat.roundUnit, hunit]
      omega

/-- `roundTo` rounds the number that the integer stands for; the sign given is that of a zero. -/
theorem FpFormat.roundTo_roundsTo (hf : f.proper) {zeroSign : Bool} (h : f.standsFor m y)
    (hzero : m = 0 → negative = zeroSign) :
    f.roundsTo (signed negative (y * 2 ^ e)) zeroSign (f.roundTo negative m e) := by
  obtain rfl | hm := eq_or_ne m 0
  · obtain rfl := hzero rfl
    obtain rfl : y = 0 := by
      obtain hexact | ⟨hodd, -⟩ := h
      · simpa using hexact
      · exact absurd hodd (by decide)
    have hr : signed negative ((0 : ℝ) * 2 ^ e) = 0 := by cases negative <;> simp [signed]
    exact ⟨fun _ => f.roundTo_zero negative e, fun hne => absurd hr hne⟩
  · obtain ⟨hlow, -⟩ := h.log2_bounds hm
    have hy : 0 < y := (pow_pos two_pos _).trans_le hlow
    have hrounds := (h.roundedAt hm e).roundsTo hf (mul_pos hy (zpow_pos two_pos _)) negative zeroSign
    rwa [f.minExp_add_roundUnit, mul_assoc, ← zpow_add₀ two_ne_zero, sub_add_cancel,
      ← f.roundTo_of_ne_zero negative hm] at hrounds

theorem FpFormat.standsFor_self (m : Nat) : f.standsFor m m := .inl rfl

theorem scaled_eq_signed_real (a : Bool) (m : Nat) (e : Int) :
    (scaled a m e : ℝ) = signed a ((m : ℝ) * 2 ^ e) :=
  scaled_eq_signed_of_eq rfl a

/-- `roundTo` rounds an exact value. -/
theorem FpFormat.roundTo_scaled (hf : f.proper) (a : Bool) (m : Nat) (e : Int) :
    f.roundsTo (scaled a m e : ℝ) a (f.roundTo a m e) := by
  rw [scaled_eq_signed_real]
  exact FpFormat.roundTo_roundsTo a hf (FpFormat.standsFor_self m) fun _ => rfl

end

end Sys2Proof.Machine

/-!
PROOFS. The arithmetic and the conversions between formats (R402, R422 to R425): for each operation, the integer and the
exponent that the model hands to `roundTo` stand for the exact result.
-/

namespace Sys2Proof.Machine

/-! ## Sums and products (R402) -/

theorem signed_mul {K : Type*} [Ring K] (negative : Bool) (x y : K) :
    signed negative (x * y) = signed negative x * y := by
  cases negative
  · rfl
  · exact (neg_mul x y).symm

theorem signed_natAbs {K : Type*} [Ring K] (z : Int) {negative : Bool} (h : z ≠ 0 → negative = decide (z < 0)) :
    signed negative (z.natAbs : K) = z := by
  obtain hneg | rfl | hpos := lt_trichotomy z 0
  · simp [signed, h hneg.ne, hneg, Nat.cast_natAbs, abs_of_neg hneg]
  · simp [signed]
  · simp [signed, h hpos.ne', hpos.not_gt, Nat.cast_natAbs, abs_of_pos hpos]

section
variable {f : FpFormat}

/-- `roundTo` rounds an integer number of units. -/
theorem FpFormat.roundTo_intCast (hf : f.proper) (z e : Int) (zeroSign : Bool) :
    f.roundsTo ((z : ℝ) * 2 ^ e) zeroSign (f.roundTo (if z = 0 then zeroSign else decide (z < 0)) z.natAbs e) := by
  have hvalue : (z : ℝ) * 2 ^ e = signed (if z = 0 then zeroSign else decide (z < 0)) ((z.natAbs : ℝ) * 2 ^ e) := by
    rw [signed_mul, signed_natAbs z fun hne => if_neg hne]
  rw [hvalue]
  exact FpFormat.roundTo_roundsTo _ hf (FpFormat.standsFor_self _) fun hzero => if_pos (Int.natAbs_eq_zero.mp hzero)

theorem FpFormat.meets_infinity (a : Bool) {P : Nat → Prop} (h : P (f.withSign a f.infinity)) :
    f.meets (.bits (f.withSign a f.infinity)) P :=
  ⟨f.withSign_lt a f.infinity_lt, h⟩

theorem FpFormat.meets_zero (a : Bool) {P : Nat → Prop} (h : P (f.withSign a 0)) : f.meets (.bits (f.withSign a 0)) P :=
  ⟨f.withSign_lt a (Nat.two_pow_pos _), h⟩

theorem FpFormat.add_meets (hf : f.proper) (x y : FpValue) : f.meets (f.add x y) (f.deliversSum x y) := by
  cases x with
  | nan => exact fun _ hnan => hnan
  | infinite a =>
    cases y with
    | nan => exact fun _ hnan => hnan
    | infinite b =>
      by_cases hab : a = b
      · rw [FpFormat.add, if_pos hab]
        exact FpFormat.meets_infinity a (by rw [FpFormat.deliversSum, if_pos hab])
      · simp [FpFormat.add, FpFormat.deliversSum, hab, FpFormat.meets]
    | finite b n e => exact FpFormat.meets_infinity a rfl
  | finite a m d =>
    cases y with
    | nan => exact fun _ hnan => hnan
    | infinite b => exact FpFormat.meets_infinity b rfl
    | finite b n e =>
      refine ⟨f.roundTo_lt _ _ _, ?_⟩
      rw [FpFormat.deliversSum, scaled_eq_signedInt_mul a m (min_le_left d e),
        scaled_eq_signedInt_mul b n (min_le_right d e), ← add_mul, ← Int.cast_add]
      push_cast
      exact_mod_cast FpFormat.roundTo_intCast hf _ _ _

theorem scaled_mul_scaled (a b : Bool) (m n : Nat) (d e : Int) :
    scaled a m d * scaled b n e = scaled (a != b) (m * n) (d + e) := by
  rw [scaled, scaled, scaled, zpow_add₀ two_ne_zero]
  cases a <;> cases b <;> simp <;> ring

theorem FpFormat.mul_meets (hf : f.proper) (x y : FpValue) : f.meets (f.mul x y) (f.deliversProduct x y) := by
  cases x with
  | nan => exact fun _ hnan => hnan
  | infinite a =>
    cases y with
    | nan => exact fun _ hnan => hnan
    | infinite b => exact FpFormat.meets_infinity _ rfl
    | finite b n e =>
      by_cases hn : n = 0
      · simp [FpFormat.mul, FpFormat.deliversProduct, hn, FpFormat.meets]
      · rw [FpFormat.mul, if_neg hn]
        exact FpFormat.meets_infinity _ (by rw [FpFormat.deliversProduct, if_neg hn])
  | finite a m d =>
    cases y with
    | nan => exact fun _ hnan => hnan
    | infinite b =>
      by_cases hm : m = 0
      · simp [FpFormat.mul, FpFormat.deliversProduct, hm, FpFormat.meets]
      · rw [FpFormat.mul, if_neg hm]
        exact FpFormat.meets_infinity _ (by rw [FpFormat.deliversProduct, if_neg hm])
    | finite b n e =>
      refine ⟨f.roundTo_lt _ _ _, ?_⟩
      rw [FpFormat.deliversProduct, scaled_mul_scaled]
      exact FpFormat.roundTo_scaled hf _ _ _

end

/-- Settles O52: a difference is the sum with the second operand negated, in the model and in the statement. -/
theorem fpSumProduct : Obligations.FpSumProduct := by
  intro s fd fs ft
  refine ⟨State.numericSingle_of_deliverSingle rfl (FpFormat.add_meets singleFormat_proper _ _),
    State.numericSingle_of_deliverSingle rfl (FpFormat.add_meets singleFormat_proper _ _),
    State.numericSingle_of_deliverSingle rfl (FpFormat.mul_meets singleFormat_proper _ _), fun hfd hfs hft => ?_⟩
  have heven : ∀ k, whenEven (evenFpr fd && evenFpr fs && evenFpr ft) k = k := fun k =>
    whenEven_triple_of_even k hfd hfs hft
  exact ⟨State.numericDouble_of_deliverDouble (heven _) (FpFormat.add_meets doubleFormat_proper _ _),
    State.numericDouble_of_deliverDouble (heven _) (FpFormat.add_meets doubleFormat_proper _ _),
    State.numericDouble_of_deliverDouble (heven _) (FpFormat.mul_meets doubleFormat_proper _ _)⟩

/-! ## Quotients (R402) -/

section
variable {f : FpFormat}

/-- The jammed integer stands for two times the number that it was cut from. -/
theorem FpFormat.jam_standsFor {q : Nat} {exact : Bool} {t : ℝ} (hle : q ≤ t) (hlt : t < q + 1)
    (hexact : exact = true ↔ t = q) (hbig : 2 ^ (f.fracBits + 1) ≤ q ∨ t = q) : f.standsFor (jam q exact) (2 * t) := by
  cases exact with
  | true =>
    left
    rw [hexact.mp rfl, jam]
    push_cast
    rfl
  | false =>
    have hne : t ≠ q := fun heq => Bool.false_ne_true (hexact.mpr heq)
    have hpos : (q : ℝ) < t := lt_of_le_of_ne hle hne.symm
    have hbits := hbig.resolve_right hne
    refine .inr ⟨?_, ?_, ?_⟩
    · simp only [jam, Bool.false_eq_true, if_false]
      omega
    · simp only [jam, Bool.false_eq_true, if_false, pow_succ] at hbits ⊢
      omega
    · simp only [jam, Bool.false_eq_true, if_false]
      push_cast
      rw [abs_lt]
      constructor <;> linarith

/-- The integer quotient, with its remainder jammed. -/
theorem FpFormat.jam_div_standsFor (m : Nat) {n k : Nat} (hn : n ≠ 0) (hlt : n < 2 ^ (f.fracBits + 1))
    (hk : 2 * f.fracBits + 2 ≤ k) :
    f.standsFor (jam (m * 2 ^ k / n) (m * 2 ^ k % n == 0)) (2 * ((m : ℝ) * 2 ^ k / n)) := by
  have hpos : (0 : ℝ) < n := by exact_mod_cast Nat.pos_of_ne_zero hn
  have hpos' : 0 < n := Nat.pos_of_ne_zero hn
  have hnum : (m : ℝ) * 2 ^ k = (m * 2 ^ k : Nat) := by push_cast; rfl
  have hbig : 2 ^ (f.fracBits + 1) ≤ m * 2 ^ k / n ∨ m = 0 := by
    refine (Nat.eq_zero_or_pos m).symm.imp_left fun hm => ?_
    rw [Nat.le_div_iff_mul_le hpos']
    calc 2 ^ (f.fracBits + 1) * n ≤ 2 ^ (f.fracBits + 1) * 2 ^ (f.fracBits + 1) := Nat.mul_le_mul_left _ hlt.le
      _ = 2 ^ (2 * f.fracBits + 2) := by rw [← pow_add]; congr 1; ring
      _ ≤ 1 * 2 ^ k := by rw [Nat.one_mul]; exact Nat.pow_le_pow_right two_pos hk
      _ ≤ m * 2 ^ k := Nat.mul_le_mul_right _ hm
  rw [hnum]
  refine FpFormat.jam_standsFor ?_ ?_ ?_ (hbig.imp_right fun hm => by simp [hm])
  · rw [le_div_iff₀ hpos]
    exact_mod_cast Nat.div_mul_le_self _ _
  · rw [div_lt_iff₀ hpos]
    exact_mod_cast (Nat.div_lt_iff_lt_mul hpos').mp (Nat.lt_succ_self _)
  · rw [beq_iff_eq, div_eq_iff hpos.ne', ← Nat.dvd_iff_mod_eq_zero]
    constructor
    · intro hdvd
      exact_mod_cast (Nat.div_mul_cancel hdvd).symm
    · intro heq
      exact Dvd.intro_left _ (by exact_mod_cast heq.symm)

theorem scaled_div_scaled (a b : Bool) (m n k : Nat) (d e : Int) :
    ((scaled a m d / scaled b n e : ℚ) : ℝ) = signed (a != b) (2 * ((m : ℝ) * 2 ^ k / n) * 2 ^ (d - e - k - 1)) := by
  have hpow : (2 : ℝ) ^ d / 2 ^ e = 2 * 2 ^ k * 2 ^ (d - e - k - 1) := by
    rw [zpow_sub_one₀ two_ne_zero, zpow_sub₀ two_ne_zero, zpow_sub₀ two_ne_zero, zpow_natCast]
    field_simp
  have hvalue : 2 * ((m : ℝ) * 2 ^ k / n) * 2 ^ (d - e - k - 1) = m * 2 ^ d / (n * 2 ^ e) := by
    rw [mul_div_mul_comm, hpow]
    ring
  push_cast
  rw [hvalue, scaled_eq_signed_real, scaled_eq_signed_real]
  cases a <;> cases b <;> simp [signed, neg_div, div_neg]

theorem FpFormat.div_meets (hf : f.proper) (x : FpValue) (bits : Nat) :
    f.meets (f.div x (f.unpack bits)) (f.deliversQuotient x (f.unpack bits)) := by
  cases x with
  | nan => exact fun _ hnan => hnan
  | infinite a =>
    cases hy : f.unpack bits with
    | nan => exact fun _ hnan => hnan
    | infinite b => exact fun _ hnan => hnan
    | finite b n e => exact FpFormat.meets_infinity _ rfl
  | finite a m d =>
    cases hy : f.unpack bits with
    | nan => exact fun _ hnan => hnan
    | infinite b => exact FpFormat.meets_zero _ rfl
    | finite b n e =>
      by_cases hn : n = 0
      · by_cases hm : m = 0
        · simp [FpFormat.div, FpFormat.deliversQuotient, hn, hm, FpFormat.meets]
        · rw [FpFormat.div, if_pos hn, if_neg hm]
          exact FpFormat.meets_infinity _ (by rw [FpFormat.deliversQuotient, if_pos hn, if_neg hm])
      · rw [FpFormat.div, if_neg hn]
        refine ⟨f.roundTo_lt _ _ _, ?_⟩
        rw [FpFormat.deliversQuotient, if_neg hn, scaled_div_scaled (k := 2 * f.fracBits + 4)]
        exact FpFormat.roundTo_roundsTo _ hf
          (FpFormat.jam_div_standsFor m hn (FpFormat.unpack_finite_bounds hy).1 (by omega)) fun _ => rfl

end

/-- Settles O53: the quotient has enough bits that the jammed integer rounds as it does. -/
theorem fpQuotient : Obligations.FpQuotient := by
  intro s fd fs ft
  refine ⟨State.numericSingle_of_deliverSingle rfl (FpFormat.div_meets singleFormat_proper _ _), fun hfd hfs hft => ?_⟩
  have hexec : exec (.divD fd fs ft) s = s.deliverDouble fd (doubleFormat.div (s.double fs) (s.double ft)) fun r =>
      r.arithDouble .div (s.getDouble fs) (s.getDouble ft) := whenEven_triple_of_even _ hfd hfs hft
  exact State.numericDouble_of_deliverDouble hexec (FpFormat.div_meets doubleFormat_proper _ _)

/-! ## Square roots (R402) -/

/-- Bit by bit the root keeps below the number, and above it when the bits to come are added. -/
theorem squareRootBits_bounds (n i root : Nat) (hle : root * root ≤ n)
    (hlt : n < (root + 2 ^ i) * (root + 2 ^ i)) :
    squareRootBits n i root * squareRootBits n i root ≤ n ∧
      n < (squareRootBits n i root + 1) * (squareRootBits n i root + 1) := by
  induction i generalizing root with
  | zero => exact ⟨hle, hlt⟩
  | succ i ih =>
    rw [squareRootBits]
    split
    · next hbit => exact ih _ hbit (by rwa [Nat.add_assoc, ← Nat.mul_two, ← pow_succ])
    · next hbit => exact ih _ hle (Nat.lt_of_not_le hbit)

theorem squareRoot_bounds (n : Nat) :
    squareRoot n * squareRoot n ≤ n ∧ n < (squareRoot n + 1) * (squareRoot n + 1) := by
  refine squareRootBits_bounds n _ 0 (Nat.zero_le n) ?_
  rw [Nat.zero_add, ← pow_add]
  exact Nat.lt_log2_self.trans_le (Nat.pow_le_pow_right two_pos (by omega))

section
variable {f : FpFormat}

/-- The integer root, jammed unless the number is a square. -/
theorem FpFormat.jam_squareRoot_standsFor {n : Nat} (hbig : 2 ^ (2 * f.fracBits + 2) ≤ n) :
    f.standsFor (jam (squareRoot n) (squareRoot n * squareRoot n == n)) (2 * Real.sqrt n) := by
  obtain ⟨hle, hlt⟩ := squareRoot_bounds n
  generalize squareRoot n = root at *
  refine FpFormat.jam_standsFor ?_ ?_ ?_ (.inl ?_)
  · exact Real.le_sqrt_of_sq_le (by rw [sq]; exact_mod_cast hle)
  · rw [Real.sqrt_lt' (by positivity), sq]
    exact_mod_cast hlt
  · rw [beq_iff_eq, Real.sqrt_eq_iff_mul_self_eq n.cast_nonneg root.cast_nonneg]
    norm_cast
    exact eq_comm
  · have hsq : 2 ^ (f.fracBits + 1) * 2 ^ (f.fracBits + 1) < (root + 1) * (root + 1) := by
      rw [← pow_add, show f.fracBits + 1 + (f.fracBits + 1) = 2 * f.fracBits + 2 by ring]
      exact hbig.trans_lt hlt
    exact Nat.lt_succ_iff.mp (Nat.mul_self_lt_mul_self_iff.mp hsq)

/-- The root of a number that is given an even exponent. -/
theorem sqrt_scaled (m k : Nat) {e h : Int} (heven : e - k = 2 * h) :
    Real.sqrt (scaled false m e : ℝ) = 2 * Real.sqrt (m * 2 ^ k : Nat) * 2 ^ (h - 1) := by
  have hvalue : (scaled false m e : ℝ) = (m * 2 ^ k : Nat) * (2 ^ h) ^ 2 := by
    rw [scaled_eq_signed_real, ← zpow_natCast ((2 : ℝ) ^ h), ← zpow_mul,
      show e = k + h * (2 : Nat) by push_cast; linarith, zpow_add₀ two_ne_zero, zpow_natCast]
    push_cast
    exact (mul_assoc _ _ _).symm
  rw [hvalue, Real.sqrt_mul' _ (by positivity), Real.sqrt_sq (by positivity), zpow_sub_one₀ two_ne_zero]
  ring

theorem FpFormat.sqrt_meets (hf : f.proper) (x : FpValue) : f.meets (f.sqrt x) (f.deliversRoot x) := by
  cases x with
  | nan => exact fun _ hnan => hnan
  | infinite a =>
    cases a with
    | true => exact fun _ hnan => hnan
    | false => exact ⟨f.infinity_lt.trans (Nat.pow_lt_pow_succ one_lt_two), rfl⟩
  | finite a m e =>
    by_cases hm : m = 0
    · rw [FpFormat.sqrt, if_pos hm]
      exact FpFormat.meets_zero a (by rw [FpFormat.deliversRoot, if_pos hm])
    rw [FpFormat.sqrt, if_neg hm]
    cases a with
    | true => simp [FpFormat.deliversRoot, hm, FpFormat.meets]
    | false =>
      refine ⟨f.roundTo_lt _ _ _, ?_⟩
      have hbig : 2 ^ (2 * f.fracBits + 2) ≤ m * 2 ^ (2 * f.fracBits + 6 + (e % 2).toNat) :=
        (Nat.pow_le_pow_right two_pos (by omega)).trans (Nat.le_mul_of_pos_left _ (Nat.pos_of_ne_zero hm))
      rw [FpFormat.deliversRoot, if_neg hm, if_neg Bool.false_ne_true,
        sqrt_scaled m (2 * f.fracBits + 6 + (e % 2).toNat) (h := (e - (2 * f.fracBits + 6 + (e % 2).toNat : Nat)) / 2)
          (by omega)]
      exact FpFormat.roundTo_roundsTo false hf (FpFormat.jam_squareRoot_standsFor hbig) fun _ => rfl

end

/-- Settles O54: the root has enough bits that the jammed integer rounds as it does. -/
theorem fpRoot : Obligations.FpRoot := by
  intro s fd fs
  refine ⟨State.numericSingle_of_deliverSingle rfl (FpFormat.sqrt_meets singleFormat_proper _), fun hfd hfs => ?_⟩
  have hexec : exec (.sqrtD fd fs) s = s.deliverDouble fd (doubleFormat.sqrt (s.double fs)) fun r =>
      r.sqrtDouble (s.getDouble fs) := whenEven_pair_of_even _ hfd hfs
  exact State.numericDouble_of_deliverDouble hexec (FpFormat.sqrt_meets doubleFormat_proper _)

/-! ## Conversions between formats (R422 to R425) -/

section
variable {f : FpFormat}

theorem FpFormat.convert_meets (hf : f.proper) (x : FpValue) : f.meets (f.convert x) (f.deliversConversion x) := by
  cases x with
  | nan => exact fun _ hnan => hnan
  | infinite a => exact FpFormat.meets_infinity a rfl
  | finite a m e => exact ⟨f.roundTo_lt a m e, FpFormat.roundTo_scaled hf a m e⟩

theorem FpFormat.ofInt_meets (hf : f.proper) (z : Int) :
    f.meets (.bits (f.ofInt z)) (f.roundsTo ((z : ℚ) : ℝ) false) := by
  refine ⟨f.roundTo_lt _ _ _, ?_⟩
  have hrounds := FpFormat.roundTo_intCast hf z 0 false
  have hsign : (if z = 0 then false else decide (z < 0)) = decide (z < 0) := by
    split
    · next hzero => simp [hzero]
    · rfl
  rwa [zpow_zero, mul_one, hsign, ← Rat.cast_intCast] at hrounds

theorem FpFormat.unpack_of_isNan {n : Nat} (h : f.isNan n = true) : f.unpack n = .nan := eq_of_beq h

/-- The exponent of a finite operand is bounded by the number of exponent fields. -/
theorem FpFormat.unpack_finite_exp_le {n m : Nat} {a : Bool} {e : Int} (h : f.unpack n = .finite a m e) :
    e ≤ f.minExp + (2 ^ f.expBits : Nat) := by
  have hfield : n / 2 ^ f.fracBits % 2 ^ f.expBits < 2 ^ f.expBits := Nat.mod_lt _ (Nat.two_pow_pos _)
  simp only [FpFormat.unpack] at h
  split at h
  · split at h <;> cases h
  · split at h <;> cases h <;> omega

theorem extended_finite_congr {a : Bool} {m n : Nat} {d e : Int} (h : (m : ℚ) * 2 ^ d = n * 2 ^ e) :
    (FpValue.finite a m d).extended = (FpValue.finite a n e).extended := by
  rw [FpValue.extended, FpValue.extended, scaled_eq_signed, scaled_eq_signed, h]

/-- A number that fits the mantissa and the exponents of the format is its own rounding. -/
theorem FpFormat.unpack_roundTo {a : Bool} {m : Nat} {e : Int} (hm : m < 2 ^ (f.fracBits + 1))
    (hlow : f.minExp ≤ e) (hhigh : e + 3 < f.minExp + (2 ^ f.expBits : Nat)) :
    (f.unpack (f.roundTo a m e)).extended = (FpValue.finite a m e).extended := by
  obtain rfl | hne := eq_or_ne m 0
  · have hinf : 0 * 2 ^ f.fracBits + 0 < f.infinity := by
      rw [Nat.zero_mul]
      exact Nat.mul_pos (by omega) (Nat.two_pow_pos _)
    obtain ⟨m', e', hunpack, hvalue⟩ := FpFormat.unpack_packed a (Nat.zero_le _) (.inl rfl) hinf
    rw [Nat.zero_mul] at hunpack
    rw [f.roundTo_zero, hunpack]
    exact extended_finite_congr (by rw [hvalue]; simp)
  have hlog : Nat.log2 m < f.fracBits + 1 := (Nat.log2_lt hne).mpr hm
  have hunit : f.roundUnit m e ≤ e := max_le (by omega) hlow
  have hmant : f.roundMant m e = m * 2 ^ (e - f.roundUnit m e).toNat := if_pos hunit
  have hrounded := (FpFormat.standsFor_self (f := f) m).roundedAt hne e
  have hsum := f.minExp_add_roundUnit m e
  rw [f.roundTo_of_ne_zero a hne]
  generalize (f.roundUnit m e - f.minExp).toNat = U at *
  have hfits : U * 2 ^ f.fracBits + f.roundMant m e < f.infinity := by
    have hle := hrounded.mant_le
    have hpos : 0 < 2 ^ f.fracBits := Nat.two_pow_pos _
    calc U * 2 ^ f.fracBits + f.roundMant m e ≤ (U + 2) * 2 ^ f.fracBits := by
          rw [pow_succ] at hle
          rw [Nat.add_mul]
          omega
      _ < f.infinity := (Nat.mul_lt_mul_right hpos).mpr (by omega)
  obtain ⟨m', e', hunpack, hvalue⟩ := FpFormat.unpack_packed a hrounded.mant_le hrounded.le_mant hfits
  rw [min_eq_left hfits.le, hunpack]
  refine extended_finite_congr ?_
  rw [hvalue, hsum, hmant]
  push_cast
  rw [mul_assoc, ← zpow_natCast, ← zpow_add₀ two_ne_zero, Int.toNat_of_nonneg (by omega), sub_add_cancel]

end

/-- The double of a single is the same number. -/
theorem convert_single_meets (bits : Nat) :
    doubleFormat.meets (doubleFormat.convert (singleFormat.unpack bits)) fun v =>
      doubleFormat.deliversConversion (singleFormat.unpack bits) v ∧
        (doubleFormat.unpack v).extended = (singleFormat.unpack bits).extended := by
  have hconvert := FpFormat.convert_meets doubleFormat_proper (singleFormat.unpack bits)
  cases hx : singleFormat.unpack bits with
  | nan => exact fun n hnan => ⟨hnan, by rw [FpFormat.unpack_of_isNan hnan]⟩
  | infinite a => exact FpFormat.meets_infinity a ⟨rfl, by rw [doubleFormat.unpack_withSign_infinity]⟩
  | finite a m e =>
    obtain ⟨hm, hlow⟩ := FpFormat.unpack_finite_bounds hx
    have hhigh := FpFormat.unpack_finite_exp_le hx
    have hmin : singleFormat.minExp = -149 := by decide
    have hmin' : doubleFormat.minExp = -1074 := by decide
    rw [hx] at hconvert
    obtain ⟨hlt, hrounds⟩ := hconvert
    refine ⟨hlt, hrounds, FpFormat.unpack_roundTo (hm.trans (by decide)) (by omega) ?_⟩
    rw [hmin] at hhigh
    rw [hmin']
    exact lt_of_le_of_lt (Int.add_le_add_right hhigh 3) (by decide)

/-- The double of a word is the same number. -/
theorem ofInt_word_meets (w : Word) :
    doubleFormat.meets (.bits (doubleFormat.ofInt w.toInt)) fun v =>
      (doubleFormat.unpack v).extended = some ((((w.toInt : ℚ) : WithTop ℚ)) : WithBot (WithTop ℚ)) := by
  refine ⟨doubleFormat.roundTo_lt _ _ _, ?_⟩
  have hword : w.toInt.natAbs < 2 ^ 53 := by
    have hlow := w.le_toInt
    have hhigh := w.toInt_lt
    omega
  have hvalue : scaled (decide (w.toInt < 0)) w.toInt.natAbs 0 = w.toInt := by
    rw [scaled_eq_signed, zpow_zero, mul_one, signed_natAbs _ fun _ => rfl]
  have hexact := FpFormat.unpack_roundTo (f := doubleFormat) (a := decide (w.toInt < 0)) (e := 0) hword (by decide)
    (by decide)
  exact hexact.trans (by rw [FpValue.extended, hvalue])

/-- Settles O55: `roundTo` rounds the value, and a double has room for every single and every word. -/
theorem fpConversions : Obligations.FpConversions := by
  intro s fd fs
  refine ⟨State.numericSingle_of_deliverSingle rfl (FpFormat.ofInt_meets singleFormat_proper _), fun hfs => ?_,
    fun hfd => ⟨?_, ?_⟩⟩
  · exact State.numericSingle_of_deliverSingle (whenEven_of_even _ hfs)
      (FpFormat.convert_meets singleFormat_proper (s.double fs))
  · exact State.numericDouble_of_deliverDouble (whenEven_of_even _ hfd) (convert_single_meets (s.getFpr fs).toNat)
  · exact State.numericDouble_of_deliverDouble (whenEven_of_even _ hfd) (ofInt_word_meets (s.getFpr fs))

end Sys2Proof.Machine

/-!
PROOFS. The statements of the exception instructions chapter (R480 to R483). Their words are the encoder's. `eret`,
`syscall` and `break` each have one equation for every case in which they differ; what they leave is then what the
return from an exception, trap entry and the host service leave.
-/

namespace Sys2Proof.Machine

/-! ## `eret` (R480) -/

theorem exec_eret_of_not_slot {s : State} (h : s.inDelaySlot = false) :
    exec .eret s = .next s.returnFromException :=
  State.unlessInDelaySlot_of_not h

/-- Settles O58: `eret` ends in the return from an exception, and a misaligned `EPC` is a misaligned fetch. -/
theorem eretReturns : Obligations.EretReturns := by
  refine ⟨fun p => decodeEncodeAgree p .eret rfl, fun s => ⟨State.unlessInDelaySlot_of_slot, fun hslot => ?_⟩⟩
  refine ⟨_, exec_eret_of_not_slot hslot, statusEXL_clearEXL _, getLsbD_clearEXL _, rfl, rfl, rfl, rfl, rfl, rfl, rfl,
    rfl, fun _ => rfl, ⟨rfl, rfl⟩, fun _ => rfl, fun _ => rfl, fun _ => rfl, ⟨rfl, rfl⟩, rfl, fun hmis hirq => ?_⟩
  exact step_of_fetch_error hirq (State.fetch_misaligned hmis)

/-! ## `syscall` and `break` (R481, R482) -/

/-- The word of R482, as the encoder makes it of the code. -/
theorem brkWord_eq_encode (code : Code20) :
    BitVec.ofNat 32 (code.toNat * 64 + 0x0D) = encode (.brk code) := by
  have hword : (encode (.brk code)).toNat = code.toNat * 64 + 0x0D := by
    simpa [encode, codeType, fieldAt] using
      toNat_fieldAt_or 6 code (rest := 0x0D#32) rfl (by decide) (by decide)
  rw [← BitVec.setWidth_eq (encode _), ← BitVec.ofNat_toNat, hword]

section
variable {s : State}

theorem exec_syscall_of_trap (h : s.params.syscallMode = .trap) : exec .syscall s = s.raise .syscall := by
  change execSyscall s = _
  rw [execSyscall, h]

theorem exec_syscall_of_host (h : s.params.syscallMode = .host) :
    exec .syscall s = if s.hostService.endsRun then .fault .hostEndedRun
      else .next ((s.applyHostEffect s.hostService).drawn 1).advance := by
  change execSyscall s = _
  rw [execSyscall, h]

theorem exec_brk_of_ne {code : Code20} (h : code ≠ 1#20) : exec (.brk code) s = s.raise .breakpoint :=
  if_neg h

/-- A host service that goes on leaves everything but registers and memory, whatever it writes (log 18). -/
theorem State.advance_applyHostEffect_frame (s : State) (e : Config.HostEffect) :
    let t := ((s.applyHostEffect e).drawn 1).advance
    s.sameAcc t ∧ s.sameCop0 t ∧ s.sameFccs t ∧ s.sameReservation t ∧ s.sameWorld t ∧ s.goesOn t := by
  obtain ⟨-, hnpc, -, hhi, hlo, hstatus, hcause, hepc, hbad, hfcc, hllBit, hllAddr, hparams, hinputs, -⟩ :=
    s.applyHostEffect_frame e
  refine ⟨⟨hhi, hlo⟩, ⟨hstatus, hcause, hepc, hbad⟩, fun c => ?_, ⟨hllBit, hllAddr⟩, ⟨hparams, hinputs⟩,
    ⟨hnpc, congrArg (· + 4#32) hnpc, rfl⟩⟩
  exact congrArg (fun flags : Vector Bool 8 => flags[c.toNat]'c.isLt) hfcc

end

/-- Settles O59: the encoder writes the words, and each instruction has one end in each of its cases. -/
theorem syscallBreakNop : Obligations.SyscallBreakNop := by
  refine ⟨fun p => ⟨decodeEncodeAgree p .syscall rfl, decodeEncodeAgree p .nop rfl⟩, fun p code => ?_, fun s code => ?_⟩
  · rw [brkWord_eq_encode]
    exact decodeEncodeAgree p (.brk code) rfl
  · refine ⟨fun htrap => State.traps_of_raise (exec_syscall_of_trap htrap), fun hhost => ?_,
      fun hcode => State.traps_of_raise (exec_brk_of_ne hcode), rfl, _, rfl, s.advance_onlyWentOn⟩
    rw [exec_syscall_of_host hhost]
    cases s.hostService.endsRun with
    | true => exact .inr rfl
    | false => exact .inl ⟨_, rfl, s.advance_applyHostEffect_frame s.hostService⟩

end Sys2Proof.Machine

/-!
PROOFS. The statements of the exceptions chapter (R500 to R514): what the outside world does before a step, when an
interrupt is taken, and trap entry followed by the return from it. The writes of other agents are a fold, so what they
leave is proved by induction on the list of writes.
-/

namespace Sys2Proof.Machine

/-! ## The interrupt lines (R511) -/

/-- The lines in their place, and no other bit. -/
theorem getLsbD_lines_shiftLeft (lines : BitVec 6) {k : Nat} (hk : k < 32) :
    (lines.setWidth 32 <<< 10).getLsbD k = if 10 ≤ k ∧ k < 16 then lines.getLsbD (k - 10) else false := by
  by_cases hlow : k < 10
  · simp [hlow, Nat.not_le_of_lt hlow]
  · have hhigh : ¬k < 16 → lines.getLsbD (k - 10) = false := fun h => BitVec.getLsbD_of_ge _ _ (by omega)
    by_cases hline : k < 16
    · simp [hk, hlow, hline, Nat.le_of_not_lt hlow]
    · simp [hlow, hline, hhigh hline]

theorem getLsbD_setHardwareIP (lines : BitVec 6) (c : Word) : ∀ k,
    (setHardwareIP lines c).getLsbD k = if 10 ≤ k ∧ k < 16 then lines.getLsbD (k - 10) else c.getLsbD k := by
  refine getLsbD_eq_of_forall_lt (fun k hk => ?_) (fun k hk => ?_)
  · have hkept : (0xFFFF03FF#32).getLsbD k = !decide (10 ≤ k ∧ k < 16) := by revert k; decide
    rw [setHardwareIP, BitVec.getLsbD_or, BitVec.getLsbD_and, hkept, getLsbD_lines_shiftLeft lines hk]
    split
    · next hline => simp [hline]
    · next hother => rw [decide_eq_false hother, Bool.not_false, Bool.and_true, Bool.or_false]
  · rw [if_neg (by omega)]
    exact BitVec.getLsbD_of_ge _ _ hk

/-- With no event listed all lines are low (log 25). -/
theorem State.currentEvent_lines (s : State) :
    s.currentEvent.lines = (s.inputs.head?.map Event.lines).getD 0#6 := by
  unfold State.currentEvent
  cases s.inputs <;> rfl

theorem State.sampleInputs_cause (s : State) :
    s.sampleInputs.cause = setHardwareIP ((s.inputs.head?.map Event.lines).getD 0#6) s.cause := by
  obtain ⟨-, -, -, -, -, -, -, hcause, -⟩ := s.sampleInputs_frame
  rw [hcause, s.currentEvent_lines]

/-! ## The writes of other agents (R71, R73) -/

section
variable {s : State}

theorem State.sampleInputs_of_nil (h : s.inputs = []) :
    s.sameMemory s.sampleInputs ∧ s.sampleInputs.llBit = s.llBit := by
  have hevent : s.currentEvent = ⟨0#6, []⟩ := by rw [State.currentEvent, h]
  unfold State.sampleInputs
  rw [hevent]
  exact ⟨fun _ => rfl, rfl⟩

theorem State.currentEvent_of_cons {event : Event} {rest : List Event} (h : s.inputs = event :: rest) :
    s.currentEvent = event := by
  rw [State.currentEvent, h]

end

/-- The state after the writes of other agents, in the order listed. -/
def State.afterAgents (s : State) (writes : List (Word × Byte)) : State := writes.foldl State.otherAgentWrites s

/-- Memory and the reservation bit at the start of a step are those that the writes leave. -/
theorem State.sampleInputs_eq_afterAgents (s : State) :
    s.sampleInputs.mem = (s.afterAgents s.currentEvent.writes).mem ∧
      s.sampleInputs.llBit = (s.afterAgents s.currentEvent.writes).llBit := ⟨rfl, rfl⟩

@[simp] theorem State.afterAgents_nil (s : State) : s.afterAgents [] = s := rfl

@[simp] theorem State.afterAgents_cons (s : State) (w : Word × Byte) (writes : List (Word × Byte)) :
    s.afterAgents (w :: writes) = (s.otherAgentWrites w).afterAgents writes := rfl

theorem State.afterAgents_append (s : State) (earlier later : List (Word × Byte)) :
    s.afterAgents (earlier ++ later) = (s.afterAgents earlier).afterAgents later := List.foldl_append

theorem State.afterAgents_wf {s : State} (writes : List (Word × Byte)) (h : s.mem.wf = true) :
    (s.afterAgents writes).mem.wf = true :=
  foldl_invariant _ (fun t : State => t.mem.wf = true) State.otherAgentWrites_wf writes s h

/-- The reservation survives exactly the writes outside its block (R73). -/
theorem State.afterAgents_llBit_iff (s : State) (writes : List (Word × Byte)) :
    (s.afterAgents writes).llBit = true ↔
      s.llBit = true ∧
        ∀ w ∈ writes, w.1.toNat / s.params.llBlockBytes ≠ s.llAddr.toNat / s.params.llBlockBytes := by
  induction writes generalizing s with
  | nil => simp
  | cons w writes ih => simp [ih, sameBlock, and_assoc]

/-- A byte that another agent writes is the one stored; every other is as before. -/
theorem State.readByte_otherAgentWrites {s : State} (h : s.mem.wf = true) (w : Word × Byte) (a : Word) :
    (s.otherAgentWrites w).readByte a = if a = w.1 then w.2 else s.readByte a := by
  simp only [State.readByte, State.otherAgentWrites_mem, Memory.read_write _ _ _ _ h, BitVec.toNat_inj]

/-- A byte that no write names is as before. -/
theorem State.readByte_afterAgents_outside {s : State} {a : Word} {writes : List (Word × Byte)} (h : s.mem.wf = true)
    (ha : ∀ w ∈ writes, w.1 ≠ a) : (s.afterAgents writes).readByte a = s.readByte a := by
  induction writes generalizing s with
  | nil => rfl
  | cons w writes ih =>
    obtain ⟨hw, hwrites⟩ := List.forall_mem_cons.mp ha
    rw [State.afterAgents_cons, ih (s.otherAgentWrites_wf w h) hwrites, State.readByte_otherAgentWrites h,
      if_neg hw.symm]

/-- A byte reads the last value written to its address. -/
theorem State.readByte_afterAgents_last {s : State} {a : Word} {v : Byte} {earlier later : List (Word × Byte)}
    (h : s.mem.wf = true) (hlater : ∀ w ∈ later, w.1 ≠ a) :
    (s.afterAgents (earlier ++ (a, v) :: later)).readByte a = v := by
  have hwf := s.afterAgents_wf earlier h
  rw [State.afterAgents_append, State.afterAgents_cons,
    State.readByte_afterAgents_outside (State.otherAgentWrites_wf _ _ hwf) hlater,
    State.readByte_otherAgentWrites hwf, if_pos rfl]

/-- Settles O6: the lines are bits of `Cause`, and the rest is what the fold over the writes does and leaves. -/
theorem outsideWorldFirst : Obligations.OutsideWorldFirst := by
  intro s
  obtain ⟨hgpr, hpc, hnpc, hslot, hhi, hlo, hstatus, -, hepc, hbad, hfpr, hfcc, hllAddr, hparams, hinputs, hdraws⟩ :=
    s.sampleInputs_frame
  refine ⟨fun k hk => ?_, fun k hk => ?_, fun r => ?_, ⟨hhi, hlo⟩, fun i => ?_, fun c => ?_, hstatus, hepc, hbad, hpc,
    hnpc, hslot, hparams, hllAddr, hdraws, hinputs, State.sampleInputs_of_nil, fun event rest hevent => ?_⟩
  · rw [s.sampleInputs_cause, getLsbD_setHardwareIP, if_pos (by omega), Nat.add_sub_cancel_left]
  · rw [s.sampleInputs_cause, getLsbD_setHardwareIP, if_neg (by omega)]
  · rw [State.getGpr, hgpr]; rfl
  · rw [State.getFpr, hfpr]; rfl
  · rw [State.getFcc, hfcc]; rfl
  · obtain ⟨hmem, hllBit⟩ := s.sampleInputs_eq_afterAgents
    rw [State.currentEvent_of_cons hevent] at hmem hllBit
    have hread : ∀ a, s.sampleInputs.readByte a = (s.afterAgents event.writes).readByte a :=
      fun a => congrArg (fun m => Memory.read m a.toNat) hmem
    refine ⟨hllBit ▸ s.afterAgents_llBit_iff event.writes, fun hwf => ⟨fun a v earlier later hsplit hlater => ?_,
      fun a ha => (hread a).trans (State.readByte_afterAgents_outside hwf ha)⟩⟩
    rw [hread, hsplit]
    exact State.readByte_afterAgents_last hwf hlater

/-! ## Interrupts (R512, R513) -/

/-- Two vectors have a common bit exactly when their conjunction is not 0. -/
theorem and_ne_zero_iff {w : Nat} (x y : BitVec w) :
    x &&& y ≠ 0#w ↔ ∃ k, k < w ∧ x.getLsbD k = true ∧ y.getLsbD k = true := by
  rw [ne_eq, BitVec.eq_of_getLsbD_eq_iff]
  simp

/-- The condition of R512, bit by bit. -/
theorem State.interruptPending_iff (s : State) :
    s.interruptPending = true ↔ s.status.getLsbD 0 = true ∧ s.status.getLsbD 1 = false ∧
      ∃ k, k < 8 ∧ s.cause.getLsbD (8 + k) = true ∧ s.status.getLsbD (8 + k) = true := by
  simp only [State.interruptPending, Bool.and_eq_true, Bool.not_eq_true', bne_iff_ne, and_ne_zero_iff, statusIE,
    statusEXL, and_assoc]
  refine and_congr_right fun _ => and_congr_right fun _ => exists_congr fun k => and_congr_right fun hk => ?_
  simp [causeIP, statusIM, hk]

/-- Settles O7: the model's test is the condition, and trap entry or the fetch is its branch. -/
theorem interruptExactlyWhenEnabled : Obligations.InterruptExactlyWhenEnabled := by
  intro s u enabled
  have hpending : u.interruptPending = true ↔ enabled := u.interruptPending_iff
  refine ⟨fun h => ⟨_, if_pos (hpending.mpr h), u.takeException_trapEntered .interrupt⟩, fun h => ?_⟩
  exact step_eq_fetchAndRun (Bool.eq_false_iff.mpr (mt hpending.mp h))

/-! ## Trap entry and the return from it (R506, R508, R509) -/

theorem clearEXL_setEXL {status : Word} (h : statusEXL status = false) : clearEXL (setEXL status) = status := by
  refine BitVec.eq_of_getLsbD_eq fun k _ => ?_
  by_cases hk : k = 1
  · subst hk
    exact (statusEXL_clearEXL _).trans h.symm
  · rw [getLsbD_clearEXL _ k hk, getLsbD_setEXL _ k hk]

/-- Settles O60: what trap entry leaves in `EPC` and `Status`, the return takes from there. -/
theorem trapAndReturn : Obligations.TrapAndReturn := by
  intro s hmode
  obtain ⟨-, -, -, -, -, hstatus, -, -, hnested, houter, -⟩ := s.takeException_trapEntered .syscall
  refine ⟨_, _, exec_syscall_of_trap hmode, exec_eret_of_not_slot rfl, fun hexl => ?_, hnested, statusEXL_clearEXL _,
    fun k hk => (getLsbD_clearEXL _ k hk).trans (hstatus k hk), rfl, rfl, rfl, fun _ => rfl, ⟨rfl, rfl⟩, fun _ => rfl,
    fun _ => rfl, fun _ => rfl⟩
  obtain ⟨hepc, -⟩ := houter hexl
  exact ⟨hepc, clearEXL_setEXL hexl⟩

end Sys2Proof.Machine
